-- ==== Sys2Proof/Word.lean ====
section
/-!
DEFINITION. The word types of the EVSE core: the widths of 00_scope.md rule R14.
A signed field is a bit string of its width; `BitVec.toInt` reads it as two's complement.
-/

namespace Sys2Proof

/-- One byte of a frame. -/
abbrev Byte := BitVec 8
/-- `u8`. -/
abbrev U8 := BitVec 8
/-- `u16`. -/
abbrev U16 := BitVec 16
/-- `u32`. -/
abbrev U32 := BitVec 32
/-- `i16`, read with `BitVec.toInt`. -/
abbrev I16 := BitVec 16
/-- `i32`, read with `BitVec.toInt`. -/
abbrev I32 := BitVec 32

end Sys2Proof
end

