-- ==== Sys2Proof/Syntax.lean ====
section
/-!
DEFINITION. The operations of the EVSE core: one constructor per row of spec/opcode_table.json
(30_encoding.md rules R60 to R75), with the data types their operands use.
-/

namespace Sys2Proof

/-- A charge state of 10_state.md rule R36. -/
inductive ChargeState where
  | a | b | c | d | ef
deriving DecidableEq, Repr, Inhabited

/-- A calibration parameter set, 10_state.md rule R31. -/
structure CalParams where
  mul : I16
  div : I16
  diff : I16
  ref2700 : I16
  ref880 : Vector I16 14
deriving DecidableEq, Repr, Inhabited

/-- The selector `which` of GET_CALIBRATION, 46_host_commands.md rule R220. -/
inductive CalSet where
  | factory | user | effective
deriving DecidableEq, Repr, Inhabited

/-- The operations of the block, one constructor per row of the opcode table. -/
inductive Instr where
  -- host commands, 30_encoding.md rule R68
  | getState
  | getAdcValues
  | getVoltages
  | getResistances
  | getPpCurrent
  | setMaxCurrent (ma : U32)
  | startCharging
  | stopCharging
  | calStep (step : U8) (password : U32) (value : I16)
  | calAbort (password : U32)
  | getCalibration (which : CalSet)
  | setUserCalibration (password : U32) (active : Bool) (params : CalParams)
  -- internal steps, 30_encoding.md rule R69
  | adcConfigure
  | adcDelay
  | adcWaitDrdy
  | adcRead
  | updateCp (code : I16)
  | updatePp (code : I16)
  | ccUpdate (code : I16)
  | tick
  | setState (new : ChargeState) (t : U32)
  | setOutput (duty : U16) (req : Bool)
  | resetPowerOn
  | resetSupervising
  -- words on the ADC's SPI, 30_encoding.md rules R60 to R64
  | ads1118CfgNormal (mux pga : BitVec 3)
  | ads1118CfgFast (mux pga : BitVec 3)
  | ads1118CfgTemp (pga : BitVec 3)
  | ads1118Sample (word : U16)
  -- the factory session password, 30_encoding.md rule R66
  | calPassword (step : BitVec 5)
  -- pseudo-instructions, 30_encoding.md rule R75
  | calPass (step : U8) (value : I16)
  | calSequence (v0 v16 : I16)
  | sample
deriving DecidableEq, Repr, Inhabited

/-- A pseudo-instruction line of the assembler: it has no words of its own (30_encoding.md
rule R75; "match": "none" in the opcode table). -/
inductive Pseudo where
  | calPass (step : U8) (value : I16)
  | calSequence (v0 v16 : I16)
  | sample
deriving DecidableEq, Repr, Inhabited

/-- The mnemonic of spec/opcode_table.json. -/
def Instr.mnemonic : Instr → String
  | .getState => "GET_STATE"
  | .getAdcValues => "GET_ADC_VALUES"
  | .getVoltages => "GET_VOLTAGES"
  | .getResistances => "GET_RESISTANCES"
  | .getPpCurrent => "GET_PP_CURRENT"
  | .setMaxCurrent _ => "SET_MAX_CURRENT"
  | .startCharging => "START_CHARGING"
  | .stopCharging => "STOP_CHARGING"
  | .calStep _ _ _ => "CAL_STEP"
  | .calAbort _ => "CAL_ABORT"
  | .getCalibration _ => "GET_CALIBRATION"
  | .setUserCalibration _ _ _ => "SET_USER_CALIBRATION"
  | .adcConfigure => "ADC_CONFIGURE"
  | .adcDelay => "ADC_DELAY"
  | .adcWaitDrdy => "ADC_WAIT_DRDY"
  | .adcRead => "ADC_READ"
  | .updateCp _ => "UPDATE_CP"
  | .updatePp _ => "UPDATE_PP"
  | .ccUpdate _ => "CC_UPDATE"
  | .tick => "TICK"
  | .setState _ _ => "SET_STATE"
  | .setOutput _ _ => "SET_OUTPUT"
  | .resetPowerOn => "RESET_POWER_ON"
  | .resetSupervising => "RESET_SUPERVISING"
  | .ads1118CfgNormal _ _ => "ADS1118_CFG_NORMAL"
  | .ads1118CfgFast _ _ => "ADS1118_CFG_FAST"
  | .ads1118CfgTemp _ => "ADS1118_CFG_TEMP"
  | .ads1118Sample _ => "ADS1118_SAMPLE"
  | .calPassword _ => "CAL_PASSWORD"
  | .calPass _ _ => "CAL_PASS"
  | .calSequence _ _ => "CAL_SEQUENCE"
  | .sample => "SAMPLE"

/-- A number of the assembler syntax, in decimal (30_encoding.md rule R74). -/
def asmNat (n : Nat) : String := toString n

/-- A signed number of the assembler syntax, in decimal (30_encoding.md rule R74). -/
def asmInt (v : I16) : String := toString v.toInt

/-- The operands of an operation in payload order, as the assembler writes them; an internal
step is written with no operands (30_encoding.md rule R74). -/
def Instr.asmOperands : Instr → List String
  | .setMaxCurrent ma => [asmNat ma.toNat]
  | .calStep step pw v => [asmNat step.toNat, asmNat pw.toNat, asmInt v]
  | .calAbort pw => [asmNat pw.toNat]
  | .getCalibration which =>
    [match which with
      | .factory => "0"
      | .user => "1"
      | .effective => "2"]
  | .setUserCalibration pw active p =>
    [asmNat pw.toNat, if active then "1" else "0", asmInt p.mul, asmInt p.div, asmInt p.diff,
      asmInt p.ref2700] ++ p.ref880.toList.map asmInt
  | .calPass step v => [asmNat step.toNat, asmInt v]
  | .calSequence v0 v16 => [asmInt v0, asmInt v16]
  | .getState | .getAdcValues | .getVoltages | .getResistances | .getPpCurrent
  | .startCharging | .stopCharging | .adcConfigure | .adcDelay | .adcWaitDrdy | .adcRead
  | .updateCp _ | .updatePp _ | .ccUpdate _ | .tick | .setState _ _ | .setOutput _ _
  | .resetPowerOn | .resetSupervising | .ads1118CfgNormal _ _ | .ads1118CfgFast _ _
  | .ads1118CfgTemp _ | .ads1118Sample _ | .calPassword _ | .sample => []

/-- One line of the assembler syntax: the mnemonic, then the operands separated by commas
(30_encoding.md rule R74). -/
def Instr.asm (i : Instr) : String :=
  match i.asmOperands with
  | [] => i.mnemonic
  | o :: os => i.mnemonic ++ " " ++ os.foldl (fun acc x => acc ++ ", " ++ x) o

end Sys2Proof
end

