-- ==== Sys2Proof/Config.lean ====
section
/-!
DEFINITION. The constants of 00_scope.md rule R12, the open parameters of rule R13, the
environment's answers of 10_state.md rule R21, and the free values: opaque constants with no
body, so that no proof can see what they are.
-/

namespace Sys2Proof

namespace Config

/-! ### The source's literals (00_scope.md rule R12) -/

/-- `K_ADC_TIMEOUT_MS` -/
abbrev kAdcTimeoutMs : Nat := 200
/-- `K_RATE_NORMAL_SPS`; no rule computes with it, `cfg` encodes it as `DR = 0b000` (R61). -/
abbrev kRateNormalSps : Nat := 8
/-- `K_RATE_FAST_SPS`; `cfg` encodes it as `DR = 0b010` (R61). -/
abbrev kRateFastSps : Nat := 32
/-- `K_CP_CODE_LO` -/
abbrev kCpCodeLo : Int := 6574
/-- `K_CP_MV_LO` -/
abbrev kCpMvLo : Int := -12000
/-- `K_CP_CODE_HI` -/
abbrev kCpCodeHi : Int := 31643
/-- `K_CP_MV_HI` -/
abbrev kCpMvHi : Int := 12000
/-- `K_HIGH_OPEN_MARGIN_MV` -/
abbrev kHighOpenMarginMv : Int := 1000
/-- `K_R_REF_OFF` -/
abbrev kRRefOff : Int := 2700
/-- `K_R_REF_ON` -/
abbrev kRRefOn : Int := 880
/-- `K_R_DIVIDER`; it cancels out of the resistance formula (41_signal_pipeline.md rule R118). -/
abbrev kRDivider : Int := 910
/-- `K_RES_AVG_LEN` -/
abbrev kResAvgLen : Nat := 4
/-- `K_PP_MV_DIV` -/
abbrev kPpMvDiv : Int := 8
/-- `K_PP_RAIL_MV` -/
abbrev kPpRailMv : Int := 5000
/-- `K_PP_OPEN_MARGIN_MV` -/
abbrev kPpOpenMarginMv : Int := 150
/-- `K_PP_R_TOP` -/
abbrev kPpRTop : Int := 1000
/-- `K_OPEN` -/
abbrev kOpen : Int := 0xFFFF
/-- `K_INV_PWM` -/
abbrev kInvPwm : U8 := 2
/-- `K_INV_CONTACTOR` -/
abbrev kInvContactor : U8 := 4
/-- `K_INV_CC` -/
abbrev kInvCc : U8 := 5
/-- `K_CAL_SETTLE_MS` -/
abbrev kCalSettleMs : Nat := 500
/-- `K_CAL_PASSWORD_BASE` -/
abbrev kCalPasswordBase : U32 := 0x0BB03200
/-- `K_CAL_LAST_STEP` -/
abbrev kCalLastStep : Nat := 16
/-- `K_880_COUNT` -/
abbrev k880Count : Nat := 14
/-- `K_880_BASE_MA` -/
abbrev k880BaseMa : Nat := 6000
/-- `K_880_STEP_MA` -/
abbrev k880StepMa : Nat := 2000
/-- `K_R_A` -/
abbrev kRA : Nat := 10000
/-- `K_R_B` -/
abbrev kRB : Nat := 1790
/-- `K_R_C` -/
abbrev kRC : Nat := 560
/-- `K_R_D` -/
abbrev kRD : Nat := 150
/-- `K_ID3_FACTOR` -/
abbrev kId3Factor : Nat := 3
/-- `K_ID3_HOLD_MS` -/
abbrev kId3HoldMs : Nat := 2500
/-- `K_ERROR_HOLDOFF_MS` -/
abbrev kErrorHoldoffMs : Nat := 30000
/-- `K_DUTY_FULL` -/
abbrev kDutyFull : U16 := 1000
/-- `K_DUTY_MIN` -/
abbrev kDutyMin : Nat := 80
/-- `K_DUTY_MAX` -/
abbrev kDutyMax : Nat := 1000
/-- `K_DUTY_BREAK_MA` -/
abbrev kDutyBreakMa : Nat := 51000
/-- `K_DUTY_DIV_LO` -/
abbrev kDutyDivLo : Nat := 60
/-- `K_DUTY_DIV_HI` -/
abbrev kDutyDivHi : Nat := 250
/-- `K_DUTY_OFF_HI` -/
abbrev kDutyOffHi : Nat := 640
/-- `K_DEFAULT_MUL` -/
abbrev kDefaultMul : I16 := 1
/-- `K_DEFAULT_DIV` -/
abbrev kDefaultDiv : I16 := 1
/-- `K_DEFAULT_DIFF` -/
abbrev kDefaultDiff : I16 := -50
/-- The ADS1118 Config Register's reset value (30_encoding.md rule R60). PRESUMED: the spec
marks it as general knowledge. Log 13. -/
abbrev chipResetConfig : U16 := 0x058B

end Config

/-! ### The environment's answers (10_state.md rule R21) -/

/-- The lock collaborator's state, 60_exceptions.md rule R250. -/
inductive LockState where
  | opened | closed | moving
deriving DecidableEq, Repr, Inhabited

/-- A persistence page, 20_memory.md rule R51. -/
inductive Page where
  | factory | user | config
deriving DecidableEq, Repr, Inhabited

/-- The decoded factory page: a magic field and the parameter set (20_memory.md rule R51). -/
structure FactoryPage where
  magic : U32
  params : CalParams
deriving DecidableEq, Repr, Inhabited

/-- The decoded user page: a magic field, `active` and the parameter set (20_memory.md rule R51). -/
structure UserPage where
  magic : U32
  active : Bool
  params : CalParams
deriving DecidableEq, Repr, Inhabited

/-- The inputs of the block other than the time base (10_state.md rule R21). ENV answers each
with any value (93_implementation_defined.md items 3, 4, 6, 7). -/
structure Inputs where
  /-- The level of the DOUT/DRDY line (40_adc_transport.md rule R100). -/
  drdyLine : Bool
  /-- The word `SpiRead16()` returns. -/
  spiWord : U16
  effMaxMa : U32
  ccError : Bool
  /-- The contactor-check collaborator's `state`, opaque, read by no rule (R251). Log 31. -/
  ccState : U32
  lockState : LockState
  jumperUnconfigured : Bool
  boxDisabled : Bool
  fastMode : Bool
  /-- The factory page as found when the block has not saved it; `none` is an erased page. -/
  factoryPage : Option FactoryPage
  /-- The user page as found when the block has not saved it; `none` is an erased page. -/
  userPage : Option UserPage
deriving DecidableEq, Repr, Inhabited

/-- ENV's answers for one step: the inputs, and how far the time base moved since the last
step. An advance below 2^31 ms is rule R248's "time never goes backward". Log 4. -/
structure Answers where
  elapsed : BitVec 31
  inputs : Inputs
deriving DecidableEq, Repr, Inhabited

/-- Whose turn it is when nothing is placed in the schedule: the scheduler's choice
(00_scope.md rule R11), or ENV's supervising reset (70_reset_and_hazards.md rule R261). -/
inductive Turn where
  | adc
  | tick
  | host (frame : List Byte)
  | supervisingReset
deriving DecidableEq, Repr, Inhabited

/-- What the ADC chip is doing (30_encoding.md rule R62, 60_exceptions.md rule R259). -/
inductive ChipActivity where
  | poweredDown | single | continuous
deriving DecidableEq, Repr, Inhabited

namespace Config

/-! ### The open parameters (00_scope.md rule R13) -/

/-- The open parameters of 00_scope.md rule R13; `σ` is the state record `S` that
`P_DIFF_CAPTURE` reads. `P_FAST_MODE` is the input `Inputs.fastMode`. Logs 22 and 23. -/
structure Params (σ : Type) where
  /-- `P_DIODE_DROP_MV` -/
  diodeDropMv : Int
  /-- `P_CAL_AVG_LEN - 1`: the parameter is a natural number of at least 1. -/
  calAvgLenPred : Nat
  /-- `P_CAL_QUEUE_LEN - 1`: the parameter is a natural number of at least 1. -/
  calQueueLenPred : Nat
  /-- `P_DIFF_CAPTURE` -/
  diffCapture : σ → I16 → I16
  /-- `P_FIRST_SAMPLE_DELAY_MS` -/
  firstSampleDelayMs : Nat
  /-- `P_TICK_PERIOD_MS`: fairness only, no rule reads it (R257, R278). -/
  tickPeriodMs : Nat
  /-- `P_MUX_CP` -/
  muxCp : BitVec 3
  /-- `P_MUX_PP` -/
  muxPp : BitVec 3
  /-- `P_PGA` -/
  pga : BitVec 3
  /-- `P_DRDY_READY_LEVEL` -/
  drdyReadyLevel : Bool
  /-- `P_FULL_BLOCK_DUTY`: no rule programs or reads it (R116, R211). Log 25. -/
  fullBlockDuty : Nat
  /-- `P_MAGIC` -/
  magic : U32
  /-- `P_PAGE_FACTORY`, `P_PAGE_USER`, `P_PAGE_CONFIG` -/
  pageNumber : Page → Nat
  /-- `P_DEFAULT_REF_2700` -/
  defaultRef2700 : I16
  /-- `P_DEFAULT_REF_880` -/
  defaultRef880 : I16
  /-- `P_USER_CAL_PASSWORD` -/
  userCalPassword : U32
  /-- `P_PP_MA` away from 900 ohm; rule R194 fixes the value at 900 ohm. -/
  ppMa : U32 → U32
deriving Inhabited

/-- `P_CAL_AVG_LEN`, at least 1. -/
def Params.calAvgLen {σ : Type} (P : Params σ) : Nat := P.calAvgLenPred + 1

/-- `P_CAL_QUEUE_LEN`, at least 1. -/
def Params.calQueueLen {σ : Type} (P : Params σ) : Nat := P.calQueueLenPred + 1

/-- The reference values of 00_scope.md rule R13, "used only by the test vectors": only the
tests use this. Magic, page numbers and the user password are OPEN there; the tests need some. -/
def Params.reference (σ : Type) : Params σ where
  diodeDropMv := 650
  calAvgLenPred := 3
  calQueueLenPred := 5
  diffCapture := fun _ v => v
  firstSampleDelayMs := 0
  tickPeriodMs := 10
  muxCp := 0b100
  muxPp := 0b101
  pga := 0b001
  drdyReadyLevel := false
  fullBlockDuty := 0
  magic := 0x12345678
  pageNumber := fun p => match p with
    | .factory => 1
    | .user => 2
    | .config => 3
  defaultRef2700 := 0
  defaultRef880 := 0
  userCalPassword := 0xCAFE
  ppMa := fun r =>
    if r.toNat ≥ 800 then 13000 else if r.toNat ≥ 400 then 20000
    else if r.toNat ≥ 160 then 32000 else 63000

/-! ### Free values -/

/-- `S.adc.cfg` after a reset instruction (10_state.md rule R25). Free value, log 9. -/
opaque freeAdcCfg : Nat → U16
/-- `S.adc.t0` after a reset instruction (10_state.md rule R25). Free value, log 9. -/
opaque freeAdcT0 : Nat → U32
/-- Slot `i` of moving average `k` after a reset instruction (10_state.md rule R22). Free
value, log 9. -/
opaque freeWindowSlot : Nat → Nat → Nat → Int
/-- `pos` of moving average `k` after a reset instruction, before reduction into its range.
Free value, log 9. -/
opaque freeWindowPos : Nat → Nat → Nat
/-- `sum` of moving average `k` after a reset instruction. Free value, log 9. -/
opaque freeWindowSum : Nat → Nat → Int
/-- Entry `i` of the estimator queue after a reset instruction (10_state.md rule R30). Free
value, log 9. -/
opaque freeQueueEntry : Nat → Nat → I16
/-- `S.cc.qpos` after a reset instruction, before reduction into its range. Free value, log 9. -/
opaque freeQueuePos : Nat → Nat
/-- The ADC chip's configuration where the spec leaves it open: after a supervising reset
(70_reset_and_hazards.md rule R266) and after a word with reserved bit 0 = 0
(93_implementation_defined.md item 14). Free value, logs 9 and 15. -/
opaque freeChipConfig : Nat → U16
/-- The ADC chip's activity in the same two cases. Free value, logs 9 and 15. -/
opaque freeChipActivity : Nat → ChipActivity
/-- The quotient by a zero divisor, which no rule computes (00_scope.md rule R16). Free value,
log 24. -/
opaque divByZero : Int → Int
/-- Whose turn it is when nothing is placed in the schedule (00_scope.md rule R11,
93_implementation_defined.md items 9 and 10). Free value, log 3. -/
opaque turn : Nat → Turn
/-- Whose turn it is, if anyone's, before the next part of an expansion runs (00_scope.md rule R11,
30_encoding.md rule R75). Free value, log 19. -/
opaque gap : Nat → Option Turn
/-- ENV's answers for a step that has none placed (93_implementation_defined.md items 3 to 7).
Free value, log 3. -/
opaque answers : Nat → Answers

end Config

end Sys2Proof
end

