-- ==== Sys2Proof/WellFormed.lean ====
section
/-!
DEFINITION. Which operations are well formed: the operand values the encodings admit beyond
their widths. Every other operand takes every value of its type (30_encoding.md rules R68 to R71).
-/

namespace Sys2Proof

/-- The last step of a factory session, `K_CAL_LAST_STEP` (00_scope.md rule R12). -/
abbrev lastSessionStep : Nat := 16

/-- An operation is well formed when the step of a password word is a session step `0..16`: the
password is defined for these only (30_encoding.md rule R66; the opcode table's CAL_PASSWORD row:
the larger steps "match the pattern but are no step's password"; log 33). CAL_PASS takes every step,
as the CAL_STEP it expands to does (R75). -/
def Instr.wellFormed : Instr → Bool
  | .calPassword step => decide (step.toNat ≤ lastSessionStep)
  | .getState | .getAdcValues | .getVoltages | .getResistances | .getPpCurrent
  | .setMaxCurrent _ | .startCharging | .stopCharging | .calStep _ _ _ | .calAbort _
  | .getCalibration _ | .setUserCalibration _ _ _ | .adcConfigure | .adcDelay | .adcWaitDrdy
  | .adcRead | .updateCp _ | .updatePp _ | .ccUpdate _ | .tick | .setState _ _
  | .setOutput _ _ | .resetPowerOn | .resetSupervising | .ads1118CfgNormal _ _
  | .ads1118CfgFast _ _ | .ads1118CfgTemp _ | .ads1118Sample _ | .calPass _ _
  | .calSequence _ _ | .sample => true

end Sys2Proof
end

