-- ==== Sys2Proof/Decode.lean ====
section
/-!
DEFINITION. The encodings of 30_encoding.md: the decoder, total on any bytes and rejecting by
name, and after it the encoder, written from the same tables. The block's encodings live on
separate ports (host frames, internal steps, the two directions of the ADC's SPI, the session
password, the assembler), so one bit pattern can stand for different operations on different
ports. Log 1.
-/

namespace Sys2Proof

/-- The operands a caller hands to a sub-operation. The one-byte frames of 30_encoding.md rule
R69 carry none. Log 2. -/
structure CallArgs where
  code : I16
  new : ChargeState
  t : U32
  duty : U16
  req : Bool
deriving DecidableEq, Repr, Inhabited

/-- No operands handed over: all bits zero. -/
def CallArgs.none : CallArgs := ⟨0, .a, 0, 0, false⟩

/-- The encoded form of one operation: the port it stands on, and its bytes in the order the
port carries them. -/
inductive Code where
  /-- A host frame: opcode byte, then the payload (R67, R68). -/
  | host (bytes : List Byte)
  /-- An internal step: one opcode byte (R69), with the operands its caller hands over. -/
  | step (bytes : List Byte) (args : CallArgs)
  /-- A word to the ADC, most significant byte first (R52, R60). -/
  | spiOut (bytes : List Byte)
  /-- A word from the ADC, most significant byte first (R52, R64). -/
  | spiIn (bytes : List Byte)
  /-- A session password, little-endian as in a frame (R66, R67). -/
  | password (bytes : List Byte)
  /-- A pseudo-instruction line of the assembler (R75). -/
  | asm (line : Pseudo)
deriving DecidableEq, Repr, Inhabited

/-- Why a decoder rejects (30_encoding.md rule R71 for host frames). -/
inductive DecodeError where
  /-- No opcode byte. -/
  | emptyFrame
  /-- The opcode is in neither R68 nor R69. -/
  | unknownOpcode
  /-- A host frame carries an opcode of R69. -/
  | internalOpcode
  /-- The frame's length is not the one its opcode fixes. -/
  | wrongLength
  /-- A `bool` field holds a value other than 0 or 1. -/
  | badBool
  /-- The `which` field of GET_CALIBRATION is above 2. -/
  | badSelector
  /-- An internal step is not one opcode byte of R69. -/
  | notAStep
  /-- A word to the ADC is none that the typed builder `cfg` makes (R63). -/
  | notAConfigWord
  /-- A 32-bit word is no session step's password (R66). -/
  | notAPassword
deriving DecidableEq, Repr, Inhabited

/-! ### Operand assembly (30_encoding.md rule R70) -/

/-- Byte `k` of a payload; the length check comes before every use. -/
def byteAt (pay : List Byte) (k : Nat) : Byte := pay.getD k 0

/-- Two little-endian bytes, `b0 + 256·b1` (R70). -/
def le16 (b0 b1 : Byte) : BitVec 16 := b1 ++ b0

/-- Four little-endian bytes (R70). -/
def le32 (b0 b1 b2 b3 : Byte) : BitVec 32 := b3 ++ b2 ++ b1 ++ b0

/-- The 16-bit field at payload offset `k`. -/
def half (pay : List Byte) (k : Nat) : BitVec 16 := le16 (byteAt pay k) (byteAt pay (k + 1))

/-- The 32-bit field at payload offset `k`. -/
def word (pay : List Byte) (k : Nat) : BitVec 32 :=
  le32 (byteAt pay k) (byteAt pay (k + 1)) (byteAt pay (k + 2)) (byteAt pay (k + 3))

/-- A `bool` field is one byte holding 0 or 1 (R67, R71). -/
def boolOf (b : Byte) : Except DecodeError Bool :=
  if b = 0 then .ok false else if b = 1 then .ok true else .error .badBool

/-- The selector of GET_CALIBRATION: 0 factory, 1 user, 2 effective (R68, R71). -/
def selectorOf (b : Byte) : Except DecodeError CalSet :=
  if b = 0 then .ok .factory else if b = 1 then .ok .user
  else if b = 2 then .ok .effective else .error .badSelector

/-- The parameter set of SET_USER_CALIBRATION, whose first field stands at payload offset `k` (R68). -/
def paramsAt (pay : List Byte) (k : Nat) : CalParams where
  mul := half pay k
  div := half pay (k + 2)
  diff := half pay (k + 4)
  ref2700 := half pay (k + 6)
  ref880 := Vector.ofFn fun i => half pay (k + 8 + 2 * i.val)

/-! ### The decoder -/

/-- The payload length each host opcode fixes (R67, R68); `none` for every other byte. -/
def hostPayloadLength (op : Byte) : Option Nat :=
  if op = 0x01 ∨ op = 0x02 ∨ op = 0x03 ∨ op = 0x04 ∨ op = 0x05 then some 0
  else if op = 0x10 then some 4
  else if op = 0x11 ∨ op = 0x12 then some 0
  else if op = 0x20 then some 7
  else if op = 0x21 then some 4
  else if op = 0x30 then some 1
  else if op = 0x31 then some 41
  else none

/-- The internal opcodes of R69. -/
def isStepOpcode (op : Byte) : Bool :=
  op = 0x80 || op = 0x81 || op = 0x82 || op = 0x83 || op = 0x84 || op = 0x85 || op = 0x86
    || op = 0x88 || op = 0x89 || op = 0x8A || op = 0x8E || op = 0x8F

/-- The command of a host frame whose length has been checked (R68). -/
def decodeHostPayload (op : Byte) (pay : List Byte) : Except DecodeError Instr :=
  if op = 0x01 then .ok .getState
  else if op = 0x02 then .ok .getAdcValues
  else if op = 0x03 then .ok .getVoltages
  else if op = 0x04 then .ok .getResistances
  else if op = 0x05 then .ok .getPpCurrent
  else if op = 0x10 then .ok (.setMaxCurrent (word pay 0))
  else if op = 0x11 then .ok .startCharging
  else if op = 0x12 then .ok .stopCharging
  else if op = 0x20 then .ok (.calStep (byteAt pay 0) (word pay 1) (half pay 5))
  else if op = 0x21 then .ok (.calAbort (word pay 0))
  else if op = 0x30 then (selectorOf (byteAt pay 0)).map .getCalibration
  else if op = 0x31 then
    (boolOf (byteAt pay 4)).map fun active => .setUserCalibration (word pay 0) active (paramsAt pay 5)
  else .error .unknownOpcode

/-- A host frame (R67, R68, R71). -/
def decodeHost : List Byte → Except DecodeError Instr
  | [] => .error .emptyFrame
  | op :: pay =>
    match hostPayloadLength op with
    | none => .error (if isStepOpcode op then .internalOpcode else .unknownOpcode)
    | some n => if pay.length = n then decodeHostPayload op pay else .error .wrongLength

/-- An internal step's opcode (R69). -/
def decodeStepOpcode (op : Byte) (args : CallArgs) : Except DecodeError Instr :=
  if op = 0x80 then .ok .adcConfigure
  else if op = 0x81 then .ok .adcDelay
  else if op = 0x82 then .ok .adcWaitDrdy
  else if op = 0x83 then .ok .adcRead
  else if op = 0x84 then .ok (.updateCp args.code)
  else if op = 0x85 then .ok (.updatePp args.code)
  else if op = 0x86 then .ok (.ccUpdate args.code)
  else if op = 0x88 then .ok .tick
  else if op = 0x89 then .ok (.setState args.new args.t)
  else if op = 0x8A then .ok (.setOutput args.duty args.req)
  else if op = 0x8E then .ok .resetPowerOn
  else if op = 0x8F then .ok .resetSupervising
  else .error .notAStep

/-- A word the driver sends to the ADC: one of the three patterns of R63. -/
def decodeConfigWord (w : U16) : Except DecodeError Instr :=
  if w.extractLsb' 0 9 = 0x10B#9 ∧ w.extractLsb' 15 1 = 1#1 then
    .ok (.ads1118CfgNormal (w.extractLsb' 12 3) (w.extractLsb' 9 3))
  else if w.extractLsb' 0 9 = 0x04B#9 ∧ w.extractLsb' 15 1 = 0#1 then
    .ok (.ads1118CfgFast (w.extractLsb' 12 3) (w.extractLsb' 9 3))
  else if w.extractLsb' 0 9 = 0x11B#9 ∧ w.extractLsb' 12 4 = 0b1000#4 then
    .ok (.ads1118CfgTemp (w.extractLsb' 9 3))
  else .error .notAConfigWord

/-- A 32-bit session password: the base with the step in bits 4..0, the step at most 16 (R66). -/
def decodePassword (w : U32) : Except DecodeError Instr :=
  if w.extractLsb' 5 27 = (0x0BB03200#32).extractLsb' 5 27
      ∧ (w.extractLsb' 0 5).toNat ≤ lastSessionStep then
    .ok (.calPassword (w.extractLsb' 0 5))
  else .error .notAPassword

/-- A pseudo-instruction line (R75). CAL_PASS takes every step: a step above 16 is the CAL_STEP of
that step, which answers `false` (43_factory_calibration.md rule R156). -/
def decodeAsm : Pseudo → Except DecodeError Instr
  | .calPass step value => .ok (.calPass step value)
  | .calSequence v0 v16 => .ok (.calSequence v0 v16)
  | .sample => .ok .sample

/-- The decoder of every port. -/
def decode : Code → Except DecodeError Instr
  | .host bytes => decodeHost bytes
  | .step [op] args => decodeStepOpcode op args
  | .step _ _ => .error .notAStep
  | .spiOut [hi, lo] => decodeConfigWord (hi ++ lo)
  | .spiOut _ => .error .wrongLength
  | .spiIn [hi, lo] => .ok (.ads1118Sample (hi ++ lo))
  | .spiIn _ => .error .wrongLength
  | .password [b0, b1, b2, b3] => decodePassword (le32 b0 b1 b2 b3)
  | .password _ => .error .wrongLength
  | .asm line => decodeAsm line

/-! ### The encoder -/

/-- Byte `k` of a word, byte 0 the least significant. -/
def byteOf {n : Nat} (w : BitVec n) (k : Nat) : Byte := w.extractLsb' (8 * k) 8

/-- A 16-bit field as two little-endian bytes (R67). -/
def bytes16 (w : BitVec 16) : List Byte := [byteOf w 0, byteOf w 1]

/-- A 32-bit field as four little-endian bytes (R67). -/
def bytes32 (w : BitVec 32) : List Byte := [byteOf w 0, byteOf w 1, byteOf w 2, byteOf w 3]

/-- A `bool` field (R67). -/
def byteOfBool (b : Bool) : Byte := if b then 1 else 0

/-- The selector of GET_CALIBRATION (R68). -/
def byteOfSelector : CalSet → Byte
  | .factory => 0
  | .user => 1
  | .effective => 2

/-- A parameter set in the field order of SET_USER_CALIBRATION (R68). -/
def bytesOfParams (p : CalParams) : List Byte :=
  bytes16 p.mul ++ bytes16 p.div ++ bytes16 p.diff ++ bytes16 p.ref2700
    ++ p.ref880.toList.flatMap bytes16

/-- A 16-bit SPI word, most significant byte first (R52). -/
def spiBytes (w : U16) : List Byte := [byteOf w 1, byteOf w 0]

/-- `1 MUX PGA 1 000 0 1 01 1` (R63; the pattern of the table's ADS1118_CFG_NORMAL row). -/
def cfgNormalWord (mux pga : BitVec 3) : U16 := 1#1 ++ mux ++ pga ++ 0b100001011#9

/-- `0 MUX PGA 0 010 0 1 01 1` (R63; the table's ADS1118_CFG_FAST row). -/
def cfgFastWord (mux pga : BitVec 3) : U16 := 0#1 ++ mux ++ pga ++ 0b001001011#9

/-- `1 000 PGA 1 000 1 1 01 1` (R63; the table's ADS1118_CFG_TEMP row). -/
def cfgTempWord (pga : BitVec 3) : U16 := 0b1000#4 ++ pga ++ 0b100011011#9

/-- A session password word: `0x0BB03200 + step` (R66; the table's CAL_PASSWORD row). -/
def passwordWord (step : BitVec 5) : U32 := (0x0BB03200#32).extractLsb' 5 27 ++ step

/-- The encoder: each operation's port and bytes. -/
def encode : Instr → Code
  | .getState => .host [0x01]
  | .getAdcValues => .host [0x02]
  | .getVoltages => .host [0x03]
  | .getResistances => .host [0x04]
  | .getPpCurrent => .host [0x05]
  | .setMaxCurrent ma => .host (0x10 :: bytes32 ma)
  | .startCharging => .host [0x11]
  | .stopCharging => .host [0x12]
  | .calStep step password value => .host (0x20 :: step :: (bytes32 password ++ bytes16 value))
  | .calAbort password => .host (0x21 :: bytes32 password)
  | .getCalibration which => .host [0x30, byteOfSelector which]
  | .setUserCalibration password active params =>
    .host (0x31 :: (bytes32 password ++ byteOfBool active :: bytesOfParams params))
  | .adcConfigure => .step [0x80] .none
  | .adcDelay => .step [0x81] .none
  | .adcWaitDrdy => .step [0x82] .none
  | .adcRead => .step [0x83] .none
  | .updateCp code => .step [0x84] { CallArgs.none with code := code }
  | .updatePp code => .step [0x85] { CallArgs.none with code := code }
  | .ccUpdate code => .step [0x86] { CallArgs.none with code := code }
  | .tick => .step [0x88] .none
  | .setState new t => .step [0x89] { CallArgs.none with new := new, t := t }
  | .setOutput duty req => .step [0x8A] { CallArgs.none with duty := duty, req := req }
  | .resetPowerOn => .step [0x8E] .none
  | .resetSupervising => .step [0x8F] .none
  | .ads1118CfgNormal mux pga => .spiOut (spiBytes (cfgNormalWord mux pga))
  | .ads1118CfgFast mux pga => .spiOut (spiBytes (cfgFastWord mux pga))
  | .ads1118CfgTemp pga => .spiOut (spiBytes (cfgTempWord pga))
  | .ads1118Sample w => .spiIn (spiBytes w)
  | .calPassword step => .password (bytes32 (passwordWord step))
  | .calPass step value => .asm (.calPass step value)
  | .calSequence v0 v16 => .asm (.calSequence v0 v16)
  | .sample => .asm .sample

/-! ### The host's table words -/

/-- The low `n` bytes of a number, byte 0 first: the bits are numbered as the opcode table
numbers them, and every bit above the number's own is 0. -/
def bytesOfNat : Nat → Nat → List Byte
  | 0, _ => []
  | n + 1, w => BitVec.ofNat 8 w :: bytesOfNat n (w / 256)

/-- Where a table word stands: a 16-bit word of a configuration pattern goes out on the SPI, a
32-bit word of the password pattern is a password, an opcode of R68 starts a host frame (its
operand bytes above the table's bits are zero), an opcode of R69 is an internal step, and any
other word is a sample word from the ADC. The pseudo-instructions have no word. Log 1. -/
def codeOfTableWord (nbits w : Nat) : Code :=
  let op : Byte := BitVec.ofNat 8 w
  if nbits = 32 ∧ w / 32 = 0x0BB03200 / 32 then .password (bytesOfNat 4 w)
  else if nbits = 16 ∧ (decodeConfigWord (BitVec.ofNat 16 w)).isOk = true then
    .spiOut (spiBytes (BitVec.ofNat 16 w))
  else match hostPayloadLength op with
    | some n => .host (bytesOfNat (n + 1) w)
    | none =>
      if isStepOpcode op then .step [op] .none else .spiIn (spiBytes (BitVec.ofNat 16 w))

/-- What the decoder reads from a word of the opcode table. -/
def decodeTableWord (nbits w : Nat) : Option Instr :=
  match decode (codeOfTableWord nbits w) with
  | .ok i => some i
  | .error _ => none

end Sys2Proof
end

