-- ==== Sys2Proof/Machine/State.lean ====
section
/-!
DEFINITION. The state of the EVSE core as plain data: the architectural record `S` of
10_state.md, what the spec names outside it (chip, chip select, persistence pages, event trace,
results, ENV's answers), and the model's own schedule and draw counter.
-/

namespace Sys2Proof.Machine

/-! ### The parts of the state record `S` (10_state.md) -/

/-- A moving average, 10_state.md rule R22: `slot`, `pos` and `sum` mean nothing while
`init = false`. -/
structure MovAvg where
  init : Bool
  slot : List Int
  pos : Nat
  sum : Int
deriving DecidableEq, Repr, Inhabited

/-- The ADC task's program counter, 10_state.md rule R23. -/
inductive AdcPhase where
  | configure | delay | waitDrdy | read
deriving DecidableEq, Repr, Inhabited

/-- 10_state.md rule R24. -/
inductive Channel where
  | cp | pp | temp
deriving DecidableEq, Repr, Inhabited

/-- 10_state.md rule R24. -/
inductive AdcMode where
  | normal | fast
deriving DecidableEq, Repr, Inhabited

/-- `S.adc`, 10_state.md rules R23 to R25. -/
structure Adc where
  phase : AdcPhase
  channel : Channel
  mode : AdcMode
  cfg : U16
  t0 : U32
deriving DecidableEq, Repr, Inhabited

/-- `S.cp`, 10_state.md rule R26. -/
structure Cp where
  raw : I16
  voltage : I16
  calVoltage : I16
  highVoltage : I32
  resistance : U32
  invalid : U8
  resAvg : MovAvg
deriving DecidableEq, Repr, Inhabited

/-- `S.pp`, 10_state.md rule R27. -/
structure Pp where
  raw : I16
  voltage : I16
  resistance : U32
  invalid : U8
  resAvg : MovAvg
deriving DecidableEq, Repr, Inhabited

/-- `S.cc`, 10_state.md rule R30. -/
structure Cc where
  avg : MovAvg
  queue : List I16
  qpos : Nat
  qinit : Bool
  maxVoltage : I16
  minVoltage : I16
deriving DecidableEq, Repr, Inhabited

/-- `S.user`, 10_state.md rule R33. -/
structure UserSet where
  active : Bool
  params : CalParams
deriving DecidableEq, Repr, Inhabited

/-- `S.cal`, 10_state.md rule R35. -/
structure Cal where
  step : U8
deriving DecidableEq, Repr, Inhabited

/-- `S.sm`, 10_state.md rules R36 to R38. -/
structure Sm where
  state : ChargeState
  lastStateChange : U32
  lastErrorTime : Option U32
  id3GuardTime : Option U32
  chargingStart : Option U32
  buttonPressed : Bool
deriving DecidableEq, Repr, Inhabited

/-- `S.out`, 10_state.md rules R39 to R41. -/
structure Out where
  duty : U16
  contactor : Bool
  lockRequested : Bool
deriving DecidableEq, Repr, Inhabited

/-- The state record `S`, 10_state.md rule R20. -/
structure Arch where
  adc : Adc
  cp : Cp
  pp : Pp
  cc : Cc
  factory : CalParams
  user : UserSet
  cal : Cal
  sm : Sm
  out : Out
deriving DecidableEq, Repr, Inhabited

/-! ### Outside `S` -/

/-- The ADS1118: its configuration register and what it is doing (20_memory.md rule R50,
30_encoding.md rules R60 and R62). Its data-ready line and its conversion result are ENV's
answers. Log 13. -/
structure Chip where
  config : U16
  activity : ChipActivity
deriving DecidableEq, Repr, Inhabited

/-- What the block last saved to each persistence page; `none` where it has saved nothing, and
then ENV answers a load (20_memory.md rules R51, R59; 93_implementation_defined.md item 7). The
block never touches the generic config page. Log 28. -/
structure Pages where
  factory : Option FactoryPage
  user : Option UserPage
  config : Option (List Byte)
deriving DecidableEq, Repr, Inhabited

/-- ENV's answers for the step at hand (10_state.md rule R21): the time base, the same at every
read within a step (60_exceptions.md rule R248), and the other inputs. -/
structure Env where
  now : U32
  inputs : Inputs
deriving DecidableEq, Repr, Inhabited

/-- The request named in a button notification, 46_host_commands.md rule R224. -/
inductive Button where
  | start | stop
deriving DecidableEq, Repr, Inhabited

/-- An error event with its information, 60_exceptions.md rules R235 to R238. -/
inductive ErrorEvent where
  | adcTimeout (channel : Channel) (cfg : U16)
  | contactorFault
  | configFault
deriving DecidableEq, Repr, Inhabited

/-- The record of a persistence save, 60_exceptions.md rule R253. DEDUCED: it is the caller's argument,
`S.factory` or `S.user`, without the magic field that the stored page gets (log 38). -/
inductive PageRecord where
  | factory (params : CalParams)
  | user (set : UserSet)
deriving DecidableEq, Repr, Inhabited

/-- The events the block emits: the complete list of 60_exceptions.md rule R256. -/
inductive Event where
  | spiWrite (w : U16)
  | spiRead (w : U16)
  | cs (asserted : Bool)
  | pwmSet (duty : U16)
  | relaySet (engaged : Bool)
  | lockRequest (locked : Bool)
  | ccInvalidate (n : U8)
  | arbDisconnect
  | arbButton (k : Button)
  | arbSetMax (ma : U32)
  | indicatorReset
  | persistSaved (page : Nat) (record : PageRecord)
  | error (e : ErrorEvent)
deriving DecidableEq, Repr, Inhabited

/-- The result of an operation that returns one (30_encoding.md rule R68); the last two are the
values of a sample word (R64, log 17) and of a password word (R66, log 18). -/
inductive Response where
  | state (state : U8) (duty : U16) (contactor : Bool) (chargingTimeMs : U32) (calStep : U8)
      (buttonPressed : Bool)
  | adcValues (cpRaw ppRaw : I16)
  | voltages (cpVoltage cpCalVoltage : I16) (cpHighVoltage : I32) (ppVoltage calMax calMin : I16)
  | resistances (cpResistance ppResistance : U32)
  | ppCurrent (ma : U32)
  | calibration (active : Bool) (params : CalParams)
  | ok (accepted : Bool)
  | sampleCode (code : I16)
  | password (word : U32)
deriving DecidableEq, Repr, Inhabited

/-- What a placed operation is a part of. Before a part of an expansion (30_encoding.md rule R75) the
scheduler may give another agent a turn (00_scope.md rule R11); a whole operation runs next. The
MODEL's own type, log 19. -/
inductive Part where
  /-- Placed for itself. -/
  | whole
  /-- A session command of CAL_SEQUENCE: any agent may have a turn before it. -/
  | session
  /-- A step of SAMPLE: it is the ADC task's own turn, the others may have one before it. -/
  | conversion
deriving DecidableEq, Repr, Inhabited

/-- One operation placed in the schedule. `answers = none` leaves ENV's answers free. `star`
repeats the operation until the ADC task's phase changes: the `*` of 30_encoding.md rule R75.
The MODEL's own type, log 3 and log 19. -/
structure Slot where
  code : Code
  answers : Option Answers
  star : Bool
  part : Part
deriving DecidableEq, Repr, Inhabited

/-- The whole machine: `S`, the parts the spec names outside it, and the MODEL's own `queue`
(the operations placed to run next) and `draws` (the argument of the free values). -/
structure State where
  arch : Arch
  chip : Chip
  chipSelect : Bool
  pages : Pages
  env : Env
  trace : List Event
  responses : List Response
  queue : List Slot
  draws : Nat
deriving DecidableEq, Repr, Inhabited

/-- Why the machine stops with a fault. -/
inductive Fault where
  /-- An ADC step was placed while the ADC task's phase is not that step's: the `require` of
  40_adc_transport.md rules R95 to R99 ("the step may not happen; the model stops with an
  error", 93_implementation_defined.md). Raised by ADC_CONFIGURE, ADC_DELAY, ADC_WAIT_DRDY and
  ADC_READ. Safe: the scheduler never makes such a step. Log 7. -/
  | stepNotEnabled (phase : AdcPhase)
deriving DecidableEq, Repr, Inhabited

/-- Why an operation is refused. A code that a decoder refuses stops nothing: logs 6 and 35. -/
inductive Refusal where
  /-- The instruction has no meaning yet. No arm of `exec` answers it. Safe. -/
  | notModelled (mnemonic : String)
deriving DecidableEq, Repr, Inhabited

/-- The open parameters of 00_scope.md rule R13, over the state record `S`. -/
abbrev Params := Config.Params Arch

end Sys2Proof.Machine

namespace Sys2Proof.Config

/-- The implementation's parameters (00_scope.md rule R13). No body: no proof can see a value.
Log 22. -/
opaque params : Sys2Proof.Machine.Params

end Sys2Proof.Config

namespace Sys2Proof.Machine

/-- The outcome of a step. -/
abbrev Result := Host.Outcome State Fault Refusal

/-! ### Reset -/

/-- `Defaults()`, 70_reset_and_hazards.md rule R262. -/
def defaultParams (P : Params) : CalParams where
  mul := Config.kDefaultMul
  div := Config.kDefaultDiv
  diff := Config.kDefaultDiff
  ref2700 := P.defaultRef2700
  ref880 := Vector.replicate 14 P.defaultRef880

/-- A moving average at `State.reset`: not initialised; slots, position and sum zero (DESIGN
CHOICE, log 8). -/
def MovAvg.atReset (len : Nat) : MovAvg := ⟨false, List.replicate len 0, 0, 0⟩

/-- ENV's inputs as `State.reset` holds them (DESIGN CHOICE, log 12): quiet lines, no fault,
erased pages. -/
def Inputs.atReset : Inputs where
  drdyLine := false
  spiWord := 0
  effMaxMa := 0
  ccError := false
  ccState := 0
  lockState := .opened
  jumperUnconfigured := false
  boxDisabled := false
  fastMode := false
  factoryPage := none
  userPage := none

/-- `S` right after power-on init with both pages absent and `Now() = 0`: the table of
10_state.md rule R45 (logs 8, 10, 11). -/
def Arch.atReset (P : Params) : Arch where
  adc := { phase := .configure, channel := .cp, mode := .normal, cfg := 0, t0 := 0 }
  cp :=
    { raw := 0, voltage := 0, calVoltage := 0, highVoltage := 0, resistance := 0, invalid := 0
      resAvg := MovAvg.atReset Config.kResAvgLen }
  pp :=
    { raw := 0, voltage := 0, resistance := 0, invalid := 0
      resAvg := MovAvg.atReset Config.kResAvgLen }
  cc :=
    { avg := MovAvg.atReset P.calAvgLen, queue := List.replicate P.calQueueLen 0, qpos := 0
      qinit := false, maxVoltage := 0, minVoltage := 0 }
  factory := defaultParams P
  user := { active := false, params := defaultParams P }
  cal := { step := 0 }
  sm :=
    { state := .ef, lastStateChange := 0, lastErrorTime := none, id3GuardTime := none
      chargingStart := none, buttonPressed := false }
  out := { duty := Config.kDutyFull, contactor := false, lockRequested := false }

/-- The machine right after reset: after RESET_POWER_ON (70_reset_and_hazards.md rule R260),
with the three events of rule R264 in the trace and nothing placed in the schedule. -/
def State.reset : State where
  arch := Arch.atReset Config.params
  chip := { config := Config.chipResetConfig, activity := .poweredDown }
  chipSelect := false
  pages := { factory := none, user := none, config := none }
  env := { now := 0, inputs := Inputs.atReset }
  trace := [.pwmSet Config.kDutyFull, .relaySet false, .lockRequest false]
  responses := []
  queue := []
  draws := 0

end Sys2Proof.Machine
end

