-- ==== Sys2Proof/Machine/Operands.lean ====
section
/-!
DEFINITION. Operands and the arithmetic on them: the exact-integer formulas of 00_scope.md rule
R16, 30_encoding.md rules R63 to R66, 41_signal_pipeline.md, 43_factory_calibration.md and
44_iec61851_state_machine.md. Divisions truncate toward zero (`Int.tdiv`).
-/

namespace Sys2Proof.Machine

/-! ### Arithmetic (00_scope.md rule R16) -/

/-- `wrap16(v)`: store a value into an `i16` field (R16). -/
def wrap16 (v : Int) : I16 := BitVec.ofInt 16 v

/-- `clamp(lo, hi, v)` (R16). -/
def clamp (lo hi v : Int) : Int := min hi (max lo v)

/-- The greater of two countdowns, the `max` of 41_signal_pipeline.md rule R112. -/
def maxU8 (a b : U8) : U8 := if a.toNat < b.toNat then b else a

/-- Elapsed time `u32(t - t0)`, modulo 2^32 (44_iec61851_state_machine.md rule R196). -/
abbrev elapsed (t t0 : U32) : Nat := (t - t0).toNat

/-! ### ADC words (30_encoding.md) -/

/-- `M(ch)` of R63. -/
def muxOf (P : Params) : Channel → BitVec 3
  | .cp => P.muxCp
  | .pp => P.muxPp
  | .temp => 0b000

/-- `T(ch)` of R63. -/
def tsBit : Channel → BitVec 1
  | .temp => 1#1
  | .cp | .pp => 0#1

/-- The typed builder `cfg(channel, mode)` of R63, most significant bit first. -/
def cfgWord (P : Params) (ch : Channel) : AdcMode → U16
  | .normal =>
    1#1 ++ muxOf P ch ++ P.pga ++ 1#1 ++ 0b000#3 ++ tsBit ch ++ 1#1 ++ 0b01#2 ++ 1#1
  | .fast =>
    0#1 ++ muxOf P ch ++ P.pga ++ 0#1 ++ 0b010#3 ++ tsBit ch ++ 1#1 ++ 0b01#2 ++ 1#1

/-- `code = sext_16(word)` of R64: the same 16 bits, read as two's complement. -/
def sampleCode (word : U16) : I16 := word

/-- `password(step)` of R66, modulo 2^32. -/
def passwordOf (step : U8) : U32 := Config.kCalPasswordBase + step.setWidth 32

/-! ### Voltages (41_signal_pipeline.md) -/

/-- `CpVoltage(code)` of R114. -/
def cpVoltage (code : Int) : I16 :=
  wrap16 (Int.tdiv ((code - Config.kCpCodeLo) * (Config.kCpMvHi - Config.kCpMvLo))
    (Config.kCpCodeHi - Config.kCpCodeLo) + Config.kCpMvLo)

/-- `tdiv(v · mul, div)`, the scaling of R115 and R142. A zero `div` never arises (R32); there the
quotient is a free value (log 24). -/
def calScale (v mul div : Int) : Int :=
  if div = 0 then Config.divByZero (v * mul) else Int.tdiv (v * mul) div

/-- The high voltage of R116, for a duty other than 0. -/
def highVoltage (cal calMin : Int) (duty : Nat) : Int :=
  Int.tdiv ((cal - calMin) * 1000) duty + calMin

/-- The PP voltage of R120. -/
def ppVoltage (code : Int) : I16 := wrap16 (Int.tdiv code Config.kPpMvDiv)

/-! ### Resistances (41_signal_pipeline.md) -/

/-- `Idx880(ma)` of R117. -/
def idx880 (ma : Int) : Nat :=
  (clamp 0 13 (Int.tdiv (ma - Config.k880BaseMa) Config.k880StepMa)).toNat

/-- The reference point `(Rref, vref)` of R117. -/
def refPoint (e : CalParams) (duty : U16) (effMaxMa : U32) : Int × Int :=
  if duty = Config.kDutyFull then (Config.kRRefOff, e.ref2700.toInt)
  else (Config.kRRefOn, (e.ref880.getD (idx880 effMaxMa.toNat) 0).toInt)

/-- `CpResistance(high)` of R118, with `d` the diode drop, `vmax` the calibration max and
`(rref, vref)` the reference point. -/
def cpResistance (d vmax rref vref high : Int) : Int :=
  if high ≥ vmax - Config.kHighOpenMarginMv then Config.kOpen
  else if vref - d ≤ 0 ∨ vmax - vref ≤ 0 then Config.kOpen
  else if high - d ≤ 0 then 0
  else min Config.kOpen
    (Int.tdiv (rref * (high - d) * (vmax - vref)) ((vref - d) * (vmax - high)))

/-- `PpResistance(v)` of R121. -/
def ppResistance (v : Int) : Int :=
  if v ≥ Config.kPpRailMv - Config.kPpOpenMarginMv then Config.kOpen
  else if v ≤ 0 then 0
  else Int.tdiv (Config.kPpRTop * v) (Config.kPpRailMv - v)

/-- Store a computed resistance into its `u32` field (00_scope.md rule R14); every computed one
lies in `[0, 0xFFFF]` (10_state.md rule R28). -/
def resistanceField (r : Int) : U32 := BitVec.ofInt 32 r

/-! ### The moving average (41_signal_pipeline.md rule R110) -/

/-- `MA_Update(ma, L, x)`: the updated average and the value it returns. A slot index in range is
an invariant (log 34). -/
def maUpdate (m : MovAvg) (len : Nat) (x : Int) : MovAvg × Int :=
  let m' : MovAvg :=
    if m.init then
      { init := true
        slot := m.slot.set m.pos x
        pos := (m.pos + 1) % len
        sum := m.sum - m.slot.getD m.pos 0 + x }
    else { init := true, slot := List.replicate len x, pos := 0, sum := len * x }
  (m', Int.tdiv m'.sum len)

/-! ### The estimator (42_continuous_calibration.md) -/

/-- `QueuePush(a)` of R143 on a ring buffer of length `n`. -/
def queuePush (n : Nat) (a : I16) (c : Cc) : Cc :=
  if c.qinit then
    { c with queue := c.queue.set c.qpos a, qpos := (c.qpos + 1) % n }
  else { c with queue := List.replicate n a, qpos := 0, qinit := true }

/-- The queue in ascending order of the signed codes (R144). -/
def sortedCodes (q : List I16) : List I16 :=
  q.insertionSort fun x y => x.toInt ≤ y.toInt

/-- `RankCode()` of R144: the element at index `tdiv(2N, 3)` of the sorted queue. -/
def rankCode (n : Nat) (q : List I16) : I16 := (sortedCodes q).getD (2 * n / 3) 0

/-! ### Currents and telemetry (44_iec61851_state_machine.md, 46_host_commands.md) -/

/-- `DutyForCurrent(ma)` of R193, in promille. -/
def dutyForCurrent (ma : Nat) : Nat :=
  if ma = 0 then 1000
  else if ma ≤ Config.kDutyBreakMa then
    min Config.kDutyMax (max Config.kDutyMin (ma / Config.kDutyDivLo))
  else min Config.kDutyMax
    (max Config.kDutyMin (ma / Config.kDutyDivHi + Config.kDutyOffHi))

/-- The duty as the `u16` operand of SET_OUTPUT. -/
def dutyField (ma : Nat) : U16 := BitVec.ofNat 16 (dutyForCurrent ma)

/-- `PpCurrent(S)` of R194: 13000 mA at 900 ohm, elsewhere the open function `P_PP_MA` (log 23). -/
def ppCurrent (P : Params) (resistance : U32) : U32 :=
  if resistance = 900 then 13000 else P.ppMa resistance

/-- `ChargingTime(S, t)` of R195. -/
def chargingTime (start : Option U32) (t : U32) : U32 :=
  match start with
  | some s => t - s
  | none => 0

/-- `code(state)` of 46_host_commands.md rule R215. -/
def stateCode : ChargeState → U8
  | .a => 0
  | .b => 1
  | .c => 2
  | .d => 3
  | .ef => 4

/-- The effective calibration set `Eff(S)`, 10_state.md rule R34. -/
def eff (a : Arch) : CalParams :=
  if a.user.active ∧ a.cal.step = 0 then a.user.params else a.factory

/-! ### Response bytes (30_encoding.md rules R67, R68) -/

/-- A response as the bytes of R68's table, little-endian. A sample code is a 16-bit word and a
password word a 32-bit one (logs 17, 18). -/
def responseBytes : Response → List Byte
  | .state st duty contactor ms step button =>
    [st] ++ bytes16 duty ++ [byteOfBool contactor] ++ bytes32 ms ++ [step] ++ [byteOfBool button]
  | .adcValues cpRaw ppRaw => bytes16 cpRaw ++ bytes16 ppRaw
  | .voltages v cal high pp cmax cmin =>
    bytes16 v ++ bytes16 cal ++ bytes32 high ++ bytes16 pp ++ bytes16 cmax ++ bytes16 cmin
  | .resistances cp pp => bytes32 cp ++ bytes32 pp
  | .ppCurrent ma => bytes32 ma
  | .calibration active p => [byteOfBool active] ++ bytesOfParams p
  | .ok b => [byteOfBool b]
  | .sampleCode c => bytes16 c
  | .password w => bytes32 w

end Sys2Proof.Machine
end

