-- ==== Sys2Proof/Machine/Flags.lean ====
section
/-!
DEFINITION. The derived conditions the rules test. The block has no arithmetic condition codes;
its Boolean flags are fields of `S` (10_state.md rule R42).
-/

namespace Sys2Proof.Machine

/-- `pwm_on(S)`, 10_state.md rule R42. -/
def pwmOn (a : Arch) : Bool := a.out.duty != Config.kDutyFull

/-- `LockClosed(l)`, 60_exceptions.md rule R250. -/
def lockClosed (l : LockState) : Bool := l == .closed

/-- `LockOpen(l)`, 60_exceptions.md rule R250. -/
def lockOpen (l : LockState) : Bool := l == .opened

/-- `DrdyReady()`, 40_adc_transport.md rule R100: the line is at the ready level. Log 21. -/
def drdyReady (P : Params) (e : Env) : Bool := e.inputs.drdyLine == P.drdyReadyLevel

/-- The first-sample delay has not passed, 40_adc_transport.md rule R96. -/
def delayPending (P : Params) (t t0 : U32) : Bool := decide (elapsed t t0 < P.firstSampleDelayMs)

/-- The data-ready wait has timed out, 40_adc_transport.md rule R97. -/
def drdyTimeout (t t0 : U32) : Bool := decide (elapsed t t0 ≥ Config.kAdcTimeoutMs)

/-- `CcEnabled(S, t)`, 42_continuous_calibration.md rule R141. -/
def ccEnabled (a : Arch) (t : U32) (boxDisabled : Bool) : Bool :=
  decide (a.sm.state = .a ∧ elapsed t a.sm.lastStateChange ≥ Config.kCalSettleMs
    ∧ boxDisabled = false ∧ a.cal.step = 0 ∧ a.out.duty = Config.kDutyFull)

/-- `Id3(S)`, 44_iec61851_state_machine.md rule R185. -/
def id3 (a : Arch) : Bool := pwmOn a && !a.out.contactor

/-- The 30 s hold-off refuses state C, 44_iec61851_state_machine.md rule R188. -/
def holdoff (lastErrorTime : Option U32) (t : U32) : Bool :=
  match lastErrorTime with
  | some e => decide (elapsed t e < Config.kErrorHoldoffMs)
  | none => false

/-- The checks of CAL_STEP, 43_factory_calibration.md rules R156 to R159, all before the first
write. A step above 16 is rejected (R156's corner case; log 27). -/
def calStepAccepted (step : U8) (password : U32) (a : Arch) : Bool :=
  decide (step = a.cal.step ∧ step.toNat ≤ Config.kCalLastStep ∧ password = passwordOf step
    ∧ (step = 0 → a.cp.resistance = 0xFFFF ∧ a.cp.voltage ≠ 0))

/-- The checks of CAL_ABORT, 43_factory_calibration.md rule R165. -/
def calAbortAccepted (password : U32) (a : Arch) : Bool :=
  decide (a.cal.step ≠ 0 ∧ password = passwordOf a.cal.step)

/-- The checks of SET_USER_CALIBRATION, 46_host_commands.md rule R221. -/
def userCalAccepted (P : Params) (password : U32) (p : CalParams) : Bool :=
  decide (password = P.userCalPassword ∧ p.div ≠ 0)

end Sys2Proof.Machine
end

