-- ==== Sys2Proof/Machine/Ops.lean ====
section
/-!
DEFINITION. The shared operations: the pseudocode primitives of 00_scope.md rule R17 (Emit, raise,
respond, the SPI, persistence), the countdown of 41_signal_pipeline.md rule R112, and the state
updates they are made of. The block has no exception entry and no return: `raise` is `Emit`
(60_exceptions.md rules R241, R247).
-/

namespace Sys2Proof.Machine

/-! ### Updates -/

/-- Replace the state record `S`. -/
def State.withArch (s : State) (a : Arch) : State := { s with arch := a }

/-- Replace `S.adc`. -/
def State.withAdc (s : State) (x : Adc) : State := { s with arch := { s.arch with adc := x } }

/-- Replace `S.factory`. -/
def State.withFactory (s : State) (p : CalParams) : State :=
  { s with arch := { s.arch with factory := p } }

/-- Replace `S.user`. -/
def State.withUser (s : State) (u : UserSet) : State := { s with arch := { s.arch with user := u } }

/-- Write `S.cal.step`. -/
def State.withCalStep (s : State) (step : U8) : State :=
  { s with arch := { s.arch with cal := { step := step } } }

/-- Replace `S.sm`. -/
def State.withSm (s : State) (x : Sm) : State := { s with arch := { s.arch with sm := x } }

/-- Replace `S.out`. -/
def State.withOut (s : State) (x : Out) : State := { s with arch := { s.arch with out := x } }

/-- Replace the ADC chip's state. -/
def State.withChip (s : State) (c : Chip) : State := { s with chip := c }

/-- A free value has been drawn: the next draw is another one. -/
def State.drawn (s : State) : State := { s with draws := s.draws + 1 }

/-! ### Events and results (00_scope.md rule R17) -/

/-- `Emit(e)`: append to the event trace (R17). -/
def State.emit (s : State) (e : Event) : State := { s with trace := s.trace ++ [e] }

/-- `raise E(info)` is `Emit(Error(E, info))`; execution goes on (60_exceptions.md rule R241). -/
def State.raise (s : State) (e : ErrorEvent) : State := s.emit (.error e)

/-- `return v` and `respond v`: the operation's result (R17). Log 29. -/
def State.respond (s : State) (r : Response) : State := { s with responses := s.responses ++ [r] }

/-! ### The ADC's SPI (40_adc_transport.md rules R101, R102) -/

/-- `CsAssert()` (R101). -/
def csAssert (s : State) : State := { s with chipSelect := true }.emit (.cs true)

/-- `CsDeassert()` (R101). -/
def csDeassert (s : State) : State := { s with chipSelect := false }.emit (.cs false)

/-- What the ADC chip does with a configuration word whose `NOP` field is `0b01` and whose bit 0
is 1 (30_encoding.md rule R62): it takes the word; in continuous mode it converts continuously;
in single-shot mode `SS = 1` starts one conversion and `SS = 0` starts none. A single conversion that
is running runs on under `SS = 0` (DEDUCED, log 14). DESIGN CHOICE: a chip that converts continuously
powers down at once under such a word; the spec does not say whether the conversion in flight
completes (log 37). -/
def chipTakes (w : U16) (c : Chip) : Chip where
  config := w
  activity :=
    if w.getLsbD 8 = false then .continuous
    else if w.getLsbD 15 = true ∨ c.activity = .single then .single
    else .poweredDown

/-- The chip's reaction to any configuration word (30_encoding.md rules R62, R72): `NOP` other than
`0b01` leaves it unchanged; reserved bit 0 = 0 is any behaviour (log 15). DESIGN CHOICE: where both
hold, the `NOP` field wins and the chip is unchanged (93_implementation_defined.md items 13 and 14
overlap there; log 36). -/
def chipReceives (w : U16) (s : State) : State :=
  if w.extractLsb' 1 2 ≠ 0b01#2 then s
  else if w.getLsbD 0 = false then
    (s.withChip ⟨Config.freeChipConfig s.draws, Config.freeChipActivity s.draws⟩).drawn
  else s.withChip (chipTakes w s.chip)

/-- `SpiWrite16(w)`: the word reaches the chip and `SpiWrite(w)` is emitted (R102). -/
def spiWrite16 (w : U16) (s : State) : State := (chipReceives w s).emit (.spiWrite w)

/-- A read exchange that returns `word`: it consumes the chip's conversion result, after which a
single-shot chip is powered down (20_memory.md rule R56, 60_exceptions.md rule R259; log 14), and
`SpiRead(word)` is emitted (R102). -/
def spiReturns (word : U16) (s : State) : State :=
  (s.withChip { s.chip with
    activity := if s.chip.activity = .single then .poweredDown else s.chip.activity }).emit
    (.spiRead word)

/-! ### The invalidation countdowns -/

/-- `Invalidate(cp, n)`, 41_signal_pipeline.md rule R112. -/
def invalidateCp (n : U8) (s : State) : State :=
  s.withArch { s.arch with cp := { s.arch.cp with invalid := maxU8 s.arch.cp.invalid n } }

/-- `Invalidate(pp, n)`, 41_signal_pipeline.md rule R112. -/
def invalidatePp (n : U8) (s : State) : State :=
  s.withArch { s.arch with pp := { s.arch.pp with invalid := maxU8 s.arch.pp.invalid n } }

/-! ### Persistence (20_memory.md rule R59, 60_exceptions.md rule R253) -/

/-- `PersistLoad(P_PAGE_FACTORY)`: what the block saved last, else what ENV answers; `none`
(`Absent`) unless the magic field is `P_MAGIC`. -/
def persistLoadFactory (P : Params) (s : State) : Option FactoryPage :=
  match s.pages.factory.or s.env.inputs.factoryPage with
  | some page => if page.magic = P.magic then some page else none
  | none => none

/-- `PersistLoad(P_PAGE_USER)`. -/
def persistLoadUser (P : Params) (s : State) : Option UserPage :=
  match s.pages.user.or s.env.inputs.userPage with
  | some page => if page.magic = P.magic then some page else none
  | none => none

/-- `PersistSave(P_PAGE_FACTORY, S.factory)`: the page gets the record with its magic field, the event
the record as it was passed (log 38). -/
def persistSaveFactory (P : Params) (s : State) : State :=
  let page : FactoryPage := { magic := P.magic, params := s.arch.factory }
  { s with pages := { s.pages with factory := some page } }.emit
    (.persistSaved (P.pageNumber .factory) (.factory s.arch.factory))

/-- `PersistSave(P_PAGE_USER, S.user)`, with the same two records (log 38). -/
def persistSaveUser (P : Params) (s : State) : State :=
  let page : UserPage :=
    { magic := P.magic, active := s.arch.user.active, params := s.arch.user.params }
  { s with pages := { s.pages with user := some page } }.emit
    (.persistSaved (P.pageNumber .user) (.user s.arch.user))

/-- `LoadFactory()`, 70_reset_and_hazards.md rule R262. -/
def loadFactory (P : Params) (s : State) : CalParams :=
  match persistLoadFactory P s with
  | some page => if page.params.div ≠ 0 then page.params else defaultParams P
  | none => defaultParams P

/-- `LoadUser()`, 70_reset_and_hazards.md rule R262. -/
def loadUser (P : Params) (s : State) : UserSet :=
  match persistLoadUser P s with
  | some page =>
    if page.params.div ≠ 0 then { active := page.active, params := page.params }
    else { active := false, params := defaultParams P }
  | none => { active := false, params := defaultParams P }

end Sys2Proof.Machine
end

