-- ==== Sys2Proof/Machine/Guard.lean ====
section
/-!
DEFINITION. The Output Guard (45_output_guard.md): the single writer of the PWM duty, the relay
and the lock request.
-/

namespace Sys2Proof.Machine

/-- The duty part, rule R206. -/
def guardDuty (duty : U16) (s : State) : State :=
  if duty ≠ s.arch.out.duty then
    let s := s.emit (.pwmSet duty)
    let s := s.withOut { s.arch.out with duty := duty }
    invalidateCp Config.kInvPwm s
  else s

/-- The lock deferral, rule R207: request locking, the contactor untouched. -/
def guardRequestLock (s : State) : State :=
  (s.withOut { s.arch.out with lockRequested := true }).emit (.lockRequest true)

/-- The relay part, rule R208: the invalidations come before the relay write. -/
def guardRelay (req : Bool) (s : State) : State :=
  if s.arch.out.contactor ≠ req then
    let s := invalidatePp Config.kInvContactor (invalidateCp Config.kInvContactor s)
    let s := (s.emit (.ccInvalidate Config.kInvCc)).emit (.relaySet req)
    s.withOut { s.arch.out with contactor := req }
  else s

/-- The unlock part, rule R209. -/
def guardUnlock (req : Bool) (s : State) : State :=
  if req = false ∧ lockOpen s.env.inputs.lockState = false then
    (s.withOut { s.arch.out with lockRequested := false }).emit (.lockRequest false)
  else s

/-- `SetOutput(duty, req)`, rule R205. -/
def setOutput (duty : U16) (req : Bool) (s : State) : State :=
  let s := guardDuty duty s
  if req = true ∧ lockClosed s.env.inputs.lockState = false then guardRequestLock s
  else guardUnlock req (guardRelay req s)

/-- SET_OUTPUT, rule R205. -/
def execSetOutput (duty : U16) (req : Bool) (s : State) : Result := .next (setOutput duty req s)

end Sys2Proof.Machine
end

