-- ==== Sys2Proof/Machine/Charge.lean ====
section
/-!
DEFINITION. The IEC 61851 state machine (44_iec61851_state_machine.md).
-/

namespace Sys2Proof.Machine

/-- `Classify(r, ma)`, rule R184. -/
def classify (r ma : Nat) : ChargeState :=
  if r > Config.kRA then .a
  else if r > Config.kRB then .b
  else if r > Config.kRC then (if ma > 0 then .c else .b)
  else if r > Config.kRD then .d
  else .ef

/-- `Id3Evaluate(r, t)`, rule R186: the target state and the new hold stamp. -/
def id3Evaluate (r : Nat) (t : U32) (sm : Sm) : ChargeState × Option U32 :=
  if r > Config.kId3Factor * Config.kRA then
    match sm.id3GuardTime with
    | none => (sm.state, some t)
    | some g =>
      if elapsed t g ≥ Config.kId3HoldMs then (.a, some g) else (sm.state, some g)
  else (.b, none)

/-- `Evaluate(t, ma)`, rule R187: the target state and the new hold stamp. -/
def evaluate (t : U32) (ma : Nat) (a : Arch) : ChargeState × Option U32 :=
  if id3 a ∧ a.cp.resistance.toNat > Config.kRA then id3Evaluate a.cp.resistance.toNat t a.sm
  else (classify a.cp.resistance.toNat ma, none)

/-- Guard (a) of rule R188: leaving EF stamps the time. -/
def leaveEf (t : U32) (sm : Sm) : Sm :=
  if sm.state = .ef then { sm with lastErrorTime := some t } else sm

/-- Guard (a) of rule R188: C is refused during the hold-off, and B takes its place (R189). -/
def refuseC (new : ChargeState) (t : U32) (sm : Sm) : ChargeState :=
  if new = .c ∧ holdoff sm.lastErrorTime t then .b else new

/-- The entry actions of rule R188, guards (b) to (d) of rule R190. -/
def enterState (new : ChargeState) (t : U32) (s : State) : State :=
  match new with
  | .a =>
    ((s.withSm { s.arch.sm with chargingStart := none }).emit .arbDisconnect).emit .indicatorReset
  | .b => s.emit .indicatorReset
  | .c => s.withSm { s.arch.sm with chargingStart := s.arch.sm.chargingStart.or (some t) }
  | .d => s
  | .ef => s

/-- `SET_STATE(new, t)`, rule R188. -/
def setState (new : ChargeState) (t : U32) (s : State) : State :=
  if new = s.arch.sm.state then s
  else
    let s := s.withSm (leaveEf t s.arch.sm)
    let new := refuseC new t s.arch.sm
    if new = s.arch.sm.state then s
    else
      let s := enterState new t s
      s.withSm { s.arch.sm with state := new, lastStateChange := t }

/-- `Actuate(st, ma)`, rules R191 and R192. -/
def actuate (st : ChargeState) (ma : Nat) (s : State) : State :=
  match st with
  | .a => setOutput Config.kDutyFull false (s.withSm { s.arch.sm with buttonPressed := false })
  | .b => setOutput (dutyField ma) false s
  | .c => setOutput (dutyField ma) true s
  | .d => setOutput Config.kDutyFull false s
  | .ef => setOutput Config.kDutyFull false s

/-- The fault path of rule R182, with its error event. -/
def faultEntry (e : ErrorEvent) (s : State) : State :=
  actuate .ef s.env.inputs.effMaxMa.toNat (setState .ef s.env.now (s.raise e))

/-- The evaluated path of rule R180: evaluate, set the state, actuate. -/
def evaluateAndActuate (s : State) : State :=
  let ma := s.env.inputs.effMaxMa.toNat
  let target := evaluate s.env.now ma s.arch
  let s := s.withSm { s.arch.sm with id3GuardTime := target.2 }
  let s := setState target.1 s.env.now s
  actuate s.arch.sm.state ma s

/-- The body of TICK, rule R180, in the priority of 60_exceptions.md rule R246. -/
def tick (s : State) : State :=
  if s.arch.cal.step ≠ 0 then s
  else if s.env.inputs.ccError then faultEntry .contactorFault s
  else if s.env.inputs.jumperUnconfigured then faultEntry .configFault s
  else if s.arch.cp.invalid ≠ 0 then s
  else evaluateAndActuate s

/-- TICK, rule R180. -/
def execTick (s : State) : Result := .next (tick s)

/-- SET_STATE, rule R188. -/
def execSetState (new : ChargeState) (t : U32) (s : State) : Result := .next (setState new t s)

end Sys2Proof.Machine
end

