-- ==== Sys2Proof/Machine/Commands.lean ====
section
/-!
DEFINITION. The host commands (46_host_commands.md).
-/

namespace Sys2Proof.Machine

/-- GET_STATE, rule R215. -/
def execGetState (s : State) : Result :=
  .next (s.respond (.state (stateCode s.arch.sm.state) s.arch.out.duty s.arch.out.contactor
    (chargingTime s.arch.sm.chargingStart s.env.now) s.arch.cal.step s.arch.sm.buttonPressed))

/-- GET_ADC_VALUES, rule R216. -/
def execGetAdcValues (s : State) : Result :=
  .next (s.respond (.adcValues s.arch.cp.raw s.arch.pp.raw))

/-- GET_VOLTAGES, rule R217. -/
def execGetVoltages (s : State) : Result :=
  .next (s.respond (.voltages s.arch.cp.voltage s.arch.cp.calVoltage s.arch.cp.highVoltage
    s.arch.pp.voltage s.arch.cc.maxVoltage s.arch.cc.minVoltage))

/-- GET_RESISTANCES, rule R218. -/
def execGetResistances (s : State) : Result :=
  .next (s.respond (.resistances s.arch.cp.resistance s.arch.pp.resistance))

/-- GET_PP_CURRENT, rule R219. -/
def execGetPpCurrent (s : State) : Result :=
  .next (s.respond (.ppCurrent (ppCurrent Config.params s.arch.pp.resistance)))

/-- The set GET_CALIBRATION reports, rule R220. -/
def calibrationOf (which : CalSet) (a : Arch) : Response :=
  match which with
  | .factory => .calibration false a.factory
  | .user => .calibration a.user.active a.user.params
  | .effective => .calibration (a.user.active && decide (a.cal.step = 0)) (eff a)

/-- GET_CALIBRATION, rule R220. -/
def execGetCalibration (which : CalSet) (s : State) : Result :=
  .next (s.respond (calibrationOf which s.arch))

/-- The body of SET_USER_CALIBRATION, rule R221. -/
def setUserCalibration (P : Params) (password : U32) (active : Bool) (p : CalParams) (s : State) :
    State :=
  if userCalAccepted P password p then
    (persistSaveUser P (s.withUser { active := active, params := p })).respond (.ok true)
  else s.respond (.ok false)

/-- SET_USER_CALIBRATION, rule R221. -/
def execSetUserCalibration (password : U32) (active : Bool) (p : CalParams) (s : State) : Result :=
  .next (setUserCalibration Config.params password active p s)

/-- SET_MAX_CURRENT, rule R223. -/
def execSetMaxCurrent (ma : U32) (s : State) : Result := .next (s.emit (.arbSetMax ma))

/-- The charging requests, rule R224. -/
def chargingRequest (k : Button) (s : State) : State :=
  (s.withSm { s.arch.sm with buttonPressed := true }).emit (.arbButton k)

/-- START_CHARGING, rule R224. -/
def execStartCharging (s : State) : Result := .next (chargingRequest .start s)

/-- STOP_CHARGING, rule R224. -/
def execStopCharging (s : State) : Result := .next (chargingRequest .stop s)

end Sys2Proof.Machine
end

