-- ==== Sys2Proof/Machine/Resets.lean ====
section
/-!
DEFINITION. The two resets (70_reset_and_hazards.md). What the spec leaves unspecified after a
reset is a free value (93_implementation_defined.md items 1, 2 and 8; log 9).
-/

namespace Sys2Proof.Machine

/-- Moving average `k` after a reset: not initialised, the rest unspecified within its shape
(10_state.md rule R22). -/
def freeWindow (n k len : Nat) : MovAvg where
  init := false
  slot := (List.range len).map (Config.freeWindowSlot n k)
  pos := Config.freeWindowPos n k % len
  sum := Config.freeWindowSum n k

/-- `ResetTransient(t)` on the state record, rule R263; `n` is the draw its unspecified fields
take. It keeps `S.factory`, `S.user` and `S.out`. -/
def resetTransient (P : Params) (n : Nat) (t : U32) (a : Arch) : Arch :=
  { a with
    adc :=
      { phase := .configure, channel := .cp, mode := .normal
        cfg := Config.freeAdcCfg n, t0 := Config.freeAdcT0 n }
    cp :=
      { raw := 0, voltage := 0, calVoltage := 0, highVoltage := 0, resistance := 0, invalid := 0
        resAvg := freeWindow n 0 Config.kResAvgLen }
    pp :=
      { raw := 0, voltage := 0, resistance := 0, invalid := 0
        resAvg := freeWindow n 1 Config.kResAvgLen }
    cc :=
      { avg := freeWindow n 2 P.calAvgLen
        queue := (List.range P.calQueueLen).map (Config.freeQueueEntry n)
        qpos := Config.freeQueuePos n % P.calQueueLen
        qinit := false, maxVoltage := 0, minVoltage := 0 }
    cal := { step := 0 }
    sm :=
      { state := .ef, lastStateChange := t, lastErrorTime := none, id3GuardTime := none
        chargingStart := none, buttonPressed := false } }

/-- `ResetOutputs()`, rule R264. -/
def resetOutputs (s : State) : State :=
  ((((s.withOut { duty := Config.kDutyFull, contactor := false, lockRequested := false }).emit
    (.pwmSet Config.kDutyFull)).emit (.relaySet false)).emit (.lockRequest false))

/-- The body of RESET_POWER_ON, rule R260. The ADC chip powers on with it (log 13). -/
def resetPowerOn (P : Params) (s : State) : State :=
  let n := s.draws
  let s := (s.withArch (resetTransient P n s.env.now s.arch)).drawn
  let s := s.withChip { config := Config.chipResetConfig, activity := .poweredDown }
  let s := s.withFactory (loadFactory P s)
  let s := s.withUser (loadUser P s)
  resetOutputs s

/-- The body of RESET_SUPERVISING, rule R261. The ADC chip's state is unspecified until the next
configuration (rule R266). -/
def resetSupervising (P : Params) (s : State) : State :=
  let n := s.draws
  let s := (s.withArch (resetTransient P n s.env.now s.arch)).drawn
  let s := s.withChip { config := Config.freeChipConfig n, activity := Config.freeChipActivity n }
  resetOutputs s

/-- RESET_POWER_ON, rule R260. -/
def execResetPowerOn (s : State) : Result := .next (resetPowerOn Config.params s)

/-- RESET_SUPERVISING, rule R261. -/
def execResetSupervising (s : State) : Result := .next (resetSupervising Config.params s)

end Sys2Proof.Machine
end

