-- ==== Sys2Proof/Machine/Session.lean ====
section
/-!
DEFINITION. The factory calibration session (43_factory_calibration.md).
-/

namespace Sys2Proof.Machine

/-- `Step0(value)`, rule R159. -/
def sessionStep0 (value : I16) (s : State) : State :=
  let s := s.withFactory { s.arch.factory with mul := value, div := s.arch.cp.voltage }
  s.withCalStep 1

/-- `Step1()`, rule R160. -/
def sessionStep1 (s : State) : State :=
  let s := s.withFactory
    { s.arch.factory with ref2700 := wrap16 s.arch.cp.highVoltage.toInt }
  let s := setOutput (dutyField Config.k880BaseMa) false s
  s.withCalStep 2

/-- `StepTable(n)` for `n` in `2..15`, rule R161. -/
def sessionStepTable (n : Nat) (s : State) : State :=
  let s := s.withFactory
    { s.arch.factory with
      ref880 := s.arch.factory.ref880.setIfInBounds (n - 2) (wrap16 s.arch.cp.highVoltage.toInt) }
  let s := setOutput (dutyField (Config.k880BaseMa + Config.k880StepMa * (n - 1))) false s
  s.withCalStep (BitVec.ofNat 8 (n + 1))

/-- `Step16(value)`, rule R162. -/
def sessionStep16 (P : Params) (value : I16) (s : State) : State :=
  let s := s.withFactory { s.arch.factory with diff := P.diffCapture s.arch value }
  let s := setOutput Config.kDutyFull false s
  let s := persistSaveFactory P s
  s.withCalStep 0

/-- The accepted step of CAL_STEP, rule R156's `case step of`. -/
def sessionStep (P : Params) (step : U8) (value : I16) (s : State) : State :=
  if step = 0 then sessionStep0 value s
  else if step = 1 then sessionStep1 s
  else if step.toNat ≤ 15 then sessionStepTable step.toNat s
  else sessionStep16 P value s

/-- The body of CAL_STEP, rules R156 and R163. -/
def calStep (P : Params) (step : U8) (password : U32) (value : I16) (s : State) : State :=
  if calStepAccepted step password s.arch then (sessionStep P step value s).respond (.ok true)
  else s.respond (.ok false)

/-- The body of CAL_ABORT, rule R165. -/
def calAbort (P : Params) (password : U32) (s : State) : State :=
  if calAbortAccepted password s.arch then
    let s := s.withFactory (loadFactory P s)
    let s := setOutput Config.kDutyFull false s
    (s.withCalStep 0).respond (.ok true)
  else s.respond (.ok false)

/-- CAL_STEP, rule R156. -/
def execCalStep (step : U8) (password : U32) (value : I16) (s : State) : Result :=
  .next (calStep Config.params step password value s)

/-- CAL_ABORT, rule R165. -/
def execCalAbort (password : U32) (s : State) : Result :=
  .next (calAbort Config.params password s)

end Sys2Proof.Machine
end

