-- ==== Sys2Proof/Machine/Calibration.lean ====
section
/-!
DEFINITION. Continuous calibration (42_continuous_calibration.md).
-/

namespace Sys2Proof.Machine

/-- The estimator's new state for an enabled update, rule R142. -/
def ccEstimate (P : Params) (code : I16) (e : CalParams) (c : Cc) : Cc :=
  let (avg, a) := maUpdate c.avg P.calAvgLen code.toInt
  let c := queuePush P.calQueueLen (wrap16 a) { c with avg := avg }
  let rv := cpVoltage (rankCode P.calQueueLen c.queue).toInt
  let vmax := wrap16 (calScale rv.toInt e.mul.toInt e.div.toInt)
  { c with maxVoltage := vmax, minVoltage := wrap16 (-vmax.toInt + e.diff.toInt) }

/-- `CC_UPDATE(code)` on the state record, rule R142: frozen unless rule R141 enables it. -/
def ccUpdate (P : Params) (env : Env) (code : I16) (a : Arch) : Arch :=
  if ccEnabled a env.now env.inputs.boxDisabled then { a with cc := ccEstimate P code (eff a) a.cc }
  else a

/-- CC_UPDATE, rule R142. -/
def execCcUpdate (code : I16) (s : State) : Result :=
  .next (s.withArch (ccUpdate Config.params s.env code s.arch))

end Sys2Proof.Machine
end

