-- ==== Sys2Proof/Machine/Pipeline.lean ====
section
/-!
DEFINITION. The signal pipeline (41_signal_pipeline.md).
-/

namespace Sys2Proof.Machine

/-- The voltages of an applied CP sample, rules R113 to R115. -/
def cpVoltages (code : I16) (a : Arch) : Arch :=
  let v := cpVoltage code.toInt
  let cal := wrap16 (calScale v.toInt (eff a).mul.toInt (eff a).div.toInt)
  { a with cp := { a.cp with voltage := v, calVoltage := cal } }

/-- The high voltage and the resistance of an applied CP sample, rules R116 to R118, from the
voltages just published. -/
def cpPublish (P : Params) (env : Env) (a : Arch) : Arch :=
  let high := highVoltage a.cp.calVoltage.toInt a.cc.minVoltage.toInt a.out.duty.toNat
  let ref := refPoint (eff a) a.out.duty env.inputs.effMaxMa
  let r := cpResistance P.diodeDropMv a.cc.maxVoltage.toInt ref.1 ref.2 high
  let (m, avg) := maUpdate a.cp.resAvg Config.kResAvgLen r
  { a with
    cp := { a.cp with
      highVoltage := BitVec.ofInt 32 high
      resistance := resistanceField avg
      resAvg := m } }

/-- `UPDATE_CP(code)` on the state record, rule R113; it stops after the voltages when the duty is
0 (rule R116). -/
def updateCp (P : Params) (env : Env) (code : I16) (a : Arch) : Arch :=
  let a := cpVoltages code a
  if a.out.duty = 0 then a else ccUpdate P env code (cpPublish P env a)

/-- `UPDATE_PP(code)` on the state record, rules R119 to R121. -/
def updatePp (code : I16) (a : Arch) : Arch :=
  let v := ppVoltage code.toInt
  let (m, avg) := maUpdate a.pp.resAvg Config.kResAvgLen (ppResistance v.toInt)
  { a with pp := { a.pp with voltage := v, resistance := resistanceField avg, resAvg := m } }

/-- `Process(CP, code)`, rule R111. -/
def processCp (P : Params) (env : Env) (code : I16) (a : Arch) : Arch :=
  let a := { a with cp := { a.cp with raw := code } }
  if a.cp.invalid ≠ 0 then { a with cp := { a.cp with invalid := a.cp.invalid - 1 } }
  else updateCp P env code a

/-- `Process(PP, code)`, rule R111. -/
def processPp (code : I16) (a : Arch) : Arch :=
  let a := { a with pp := { a.pp with raw := code } }
  if a.pp.invalid ≠ 0 then { a with pp := { a.pp with invalid := a.pp.invalid - 1 } }
  else updatePp code a

/-- `Process(ch, code)`, rule R111. No rule reads a sample of the temperature channel
(30_encoding.md rule R65), so one is not processed (log 26). -/
def process (P : Params) (env : Env) (ch : Channel) (code : I16) (a : Arch) : Arch :=
  match ch with
  | .cp => processCp P env code a
  | .pp => processPp code a
  | .temp => a

/-- UPDATE_CP, rule R113. -/
def execUpdateCp (code : I16) (s : State) : Result :=
  .next (s.withArch (updateCp Config.params s.env code s.arch))

/-- UPDATE_PP, rule R119. -/
def execUpdatePp (code : I16) (s : State) : Result := .next (s.withArch (updatePp code s.arch))

end Sys2Proof.Machine
end

