-- ==== Sys2Proof/Machine/Transport.lean ====
section
/-!
DEFINITION. The SPI ADC transport (40_adc_transport.md): one atomic step per phase.
-/

namespace Sys2Proof.Machine

/-- `require S.adc.phase = p`: the step may not happen in another phase (log 7). -/
def inPhase (p : AdcPhase) (s : State) (next : State) : Result :=
  if s.arch.adc.phase = p then .next next else .fault (.stepNotEnabled s.arch.adc.phase)

/-- The body of ADC_CONFIGURE, rule R95. -/
def adcConfigure (P : Params) (s : State) : State :=
  let m : AdcMode := if s.env.inputs.fastMode then .fast else .normal
  let w := cfgWord P s.arch.adc.channel m
  let s := csDeassert (spiWrite16 w (csAssert s))
  s.withAdc { s.arch.adc with mode := m, cfg := w, t0 := s.env.now, phase := .delay }

/-- The body of ADC_DELAY, rule R96. -/
def adcDelay (P : Params) (s : State) : State :=
  if delayPending P s.env.now s.arch.adc.t0 then s
  else
    let s := csAssert s
    s.withAdc { s.arch.adc with t0 := s.env.now, phase := .waitDrdy }

/-- `TimeoutRetry(t)`, rule R98. -/
def timeoutRetry (s : State) : State :=
  let s := s.raise (.adcTimeout s.arch.adc.channel s.arch.adc.cfg)
  let s := spiWrite16 s.arch.adc.cfg (csAssert (csDeassert s))
  s.withAdc { s.arch.adc with t0 := s.env.now }

/-- The body of ADC_WAIT_DRDY, rule R97: the ready check comes first. -/
def adcWaitDrdy (P : Params) (s : State) : State :=
  if drdyReady P s.env then s.withAdc { s.arch.adc with phase := .read }
  else if drdyTimeout s.env.now s.arch.adc.t0 then timeoutRetry s
  else s

/-- The body of ADC_READ, rule R99. -/
def adcRead (P : Params) (s : State) : State :=
  let word := s.env.inputs.spiWord
  let s := csDeassert (spiReturns word s)
  let ch := s.arch.adc.channel
  let s := s.withArch (process P s.env ch (sampleCode word) s.arch)
  s.withAdc { s.arch.adc with channel := if ch = .cp then .pp else .cp, phase := .configure }

/-- ADC_CONFIGURE, rule R95. -/
def execAdcConfigure (s : State) : Result := inPhase .configure s (adcConfigure Config.params s)

/-- ADC_DELAY, rule R96. -/
def execAdcDelay (s : State) : Result := inPhase .delay s (adcDelay Config.params s)

/-- ADC_WAIT_DRDY, rule R97. -/
def execAdcWaitDrdy (s : State) : Result := inPhase .waitDrdy s (adcWaitDrdy Config.params s)

/-- ADC_READ, rule R99. -/
def execAdcRead (s : State) : Result := inPhase .read s (adcRead Config.params s)

end Sys2Proof.Machine
end

