-- ==== Sys2Proof/Machine/Words.lean ====
section
/-!
DEFINITION. The rows of the opcode table that are words or assembler lines: the ADC words
(30_encoding.md rules R60 to R64), the password word (R66) and the pseudo-instructions (R75).
-/

namespace Sys2Proof.Machine

/-- ADS1118_CFG_NORMAL: `SpiWrite16` of `cfg(ch, Normal)` (R62, R63; log 16). -/
def execAds1118CfgNormal (mux pga : BitVec 3) (s : State) : Result :=
  .next (spiWrite16 (cfgNormalWord mux pga) s)

/-- ADS1118_CFG_FAST: `SpiWrite16` of `cfg(ch, Fast)` (R62, R63; log 16). -/
def execAds1118CfgFast (mux pga : BitVec 3) (s : State) : Result :=
  .next (spiWrite16 (cfgFastWord mux pga) s)

/-- ADS1118_CFG_TEMP: `SpiWrite16` of `cfg(TEMP, Normal)` (R62, R63; log 16). -/
def execAds1118CfgTemp (pga : BitVec 3) (s : State) : Result :=
  .next (spiWrite16 (cfgTempWord pga) s)

/-- ADS1118_SAMPLE: a `SpiRead16` that returns this word, taken as `code = sext_16(word)` (R64;
log 17). -/
def execAds1118Sample (word : U16) (s : State) : Result :=
  .next ((spiReturns word s).respond (.sampleCode (sampleCode word)))

/-- CAL_PASSWORD: the value `password(step)` (R66; log 18). -/
def execCalPassword (step : BitVec 5) (s : State) : Result :=
  .next (s.respond (.password (passwordOf (step.setWidth 8))))

/-- CAL_PASS: CAL_STEP with the step's correct password (R75; log 19). -/
def execCalPass (step : U8) (value : I16) (s : State) : Result :=
  .next (calStep Config.params step (passwordOf step) value s)

/-- A session command of an expansion, with free answers of ENV. -/
def sessionPart (step : U8) (value : I16) : Slot :=
  { code := encode (.calPass step value), answers := none, star := false, part := .session }

/-- A step of an expansion of SAMPLE, with free answers of ENV. -/
def conversionPart (i : Instr) (star : Bool) : Slot :=
  { code := encode i, answers := none, star := star, part := .conversion }

/-- The expansion of CAL_SEQUENCE (R75): the session steps 0 to 16, each with its password. -/
def calSequenceSlots (v0 v16 : I16) : List Slot :=
  sessionPart 0 v0 :: ((List.range 15).map fun k => sessionPart (BitVec.ofNat 8 (k + 1)) 0)
    ++ [sessionPart 16 v16]

/-- The expansion of SAMPLE (R75): `ADC_CONFIGURE; ADC_DELAY*; ADC_WAIT_DRDY*; ADC_READ`. -/
def sampleSlots : List Slot :=
  [conversionPart .adcConfigure false, conversionPart .adcDelay true,
    conversionPart .adcWaitDrdy true, conversionPart .adcRead false]

/-- CAL_SEQUENCE: its expansion stands in front of what is placed (R75; log 19). -/
def execCalSequence (v0 v16 : I16) (s : State) : Result :=
  .next { s with queue := calSequenceSlots v0 v16 ++ s.queue }

/-- SAMPLE: its expansion stands in front of what is placed (R75; log 19). -/
def execSample (s : State) : Result := .next { s with queue := sampleSlots ++ s.queue }

end Sys2Proof.Machine
end

