-- ==== Sys2Proof/Machine/Dispatch.lean ====
section
/-!
DEFINITION. One arm per operation of the opcode table.
-/

namespace Sys2Proof.Machine

/-- The meaning of each operation. -/
def exec (i : Instr) (s : State) : Host.Outcome State Fault Refusal :=
  match i with
  | .getState => Sys2Proof.Machine.execGetState s
  | .getAdcValues => Sys2Proof.Machine.execGetAdcValues s
  | .getVoltages => Sys2Proof.Machine.execGetVoltages s
  | .getResistances => Sys2Proof.Machine.execGetResistances s
  | .getPpCurrent => Sys2Proof.Machine.execGetPpCurrent s
  | .setMaxCurrent ma => Sys2Proof.Machine.execSetMaxCurrent ma s
  | .startCharging => Sys2Proof.Machine.execStartCharging s
  | .stopCharging => Sys2Proof.Machine.execStopCharging s
  | .calStep step password value => Sys2Proof.Machine.execCalStep step password value s
  | .calAbort password => Sys2Proof.Machine.execCalAbort password s
  | .getCalibration which => Sys2Proof.Machine.execGetCalibration which s
  | .setUserCalibration password active params => Sys2Proof.Machine.execSetUserCalibration password active params s
  | .adcConfigure => Sys2Proof.Machine.execAdcConfigure s
  | .adcDelay => Sys2Proof.Machine.execAdcDelay s
  | .adcWaitDrdy => Sys2Proof.Machine.execAdcWaitDrdy s
  | .adcRead => Sys2Proof.Machine.execAdcRead s
  | .updateCp code => Sys2Proof.Machine.execUpdateCp code s
  | .updatePp code => Sys2Proof.Machine.execUpdatePp code s
  | .ccUpdate code => Sys2Proof.Machine.execCcUpdate code s
  | .tick => Sys2Proof.Machine.execTick s
  | .setState new t => Sys2Proof.Machine.execSetState new t s
  | .setOutput duty req => Sys2Proof.Machine.execSetOutput duty req s
  | .resetPowerOn => Sys2Proof.Machine.execResetPowerOn s
  | .resetSupervising => Sys2Proof.Machine.execResetSupervising s
  | .ads1118CfgNormal mux pga => Sys2Proof.Machine.execAds1118CfgNormal mux pga s
  | .ads1118CfgFast mux pga => Sys2Proof.Machine.execAds1118CfgFast mux pga s
  | .ads1118CfgTemp pga => Sys2Proof.Machine.execAds1118CfgTemp pga s
  | .ads1118Sample word => Sys2Proof.Machine.execAds1118Sample word s
  | .calPassword step => Sys2Proof.Machine.execCalPassword step s
  | .calPass step value => Sys2Proof.Machine.execCalPass step value s
  | .calSequence v0 v16 => Sys2Proof.Machine.execCalSequence v0 v16 s
  | .sample => Sys2Proof.Machine.execSample s

end Sys2Proof.Machine
end

