-- ==== Sys2Proof/Machine/Fetch.lean ====
section
/-!
DEFINITION. How the next operation is selected. The block fetches from no memory (20_memory.md
rule R58): the operation at the head of the schedule runs, and when nothing is placed, or before a
part of an expansion, the scheduler's free choice of agent decides (00_scope.md rules R10, R11).
Logs 3 and 19.
-/

namespace Sys2Proof.Machine

/-- The ADC task's step for its phase: the phase is its program counter (10_state.md rule R23). -/
def adcStepOf : AdcPhase → Instr
  | .configure => .adcConfigure
  | .delay => .adcDelay
  | .waitDrdy => .adcWaitDrdy
  | .read => .adcRead

/-- The operation an agent's turn runs. -/
def codeOfTurn (phase : AdcPhase) : Turn → Code
  | .adc => encode (adcStepOf phase)
  | .tick => encode .tick
  | .host frame => .host frame
  | .supervisingReset => encode .resetSupervising

/-- Take ENV's answers for the coming step: the time base moves forward by less than 2^31 ms
(60_exceptions.md rule R248; log 4). -/
def takeAnswers (a : Answers) (s : State) : State :=
  { s with
    env := { now := s.env.now + a.elapsed.setWidth 32, inputs := a.inputs }
    draws := s.draws + 1 }

/-- The turn the scheduler gives to an agent before a placed operation runs: any, or none, before a
part of an expansion. A turn of the ADC task before a step of SAMPLE is that step itself (log 19). -/
def gapTurn (part : Part) (n : Nat) : Option Turn :=
  match part with
  | .whole => none
  | .session => Config.gap n
  | .conversion => if Config.gap n = some .adc then none else Config.gap n

/-- The turn due: the scheduler's choice when nothing is placed, else the turn before the operation
at the head of the schedule, if there is one. -/
def turnDue (s : State) : Option Turn :=
  match s.queue with
  | [] => some (Config.turn s.draws)
  | slot :: _ => gapTurn slot.part s.draws

/-- What stays placed after a turn: everything, but a supervising reset puts the ADC task back to
Configure (40_adc_transport.md rule R92) and so ends the conversion whose steps are at the head.
DESIGN CHOICE: 70_reset_and_hazards.md rule R266 abandons the conversion in progress but does not say
what becomes of the rest of a SAMPLE; steps of one that stand behind any other operation are kept
(log 19). -/
def keptAfter (turn : Turn) (queue : List Slot) : List Slot :=
  match turn with
  | .supervisingReset => queue.dropWhile fun slot => slot.part = .conversion
  | .adc | .tick | .host _ => queue

/-- The operation of a turn, with free answers of ENV. -/
def turnSlot (phase : AdcPhase) (turn : Turn) : Slot :=
  { code := codeOfTurn phase turn, answers := none, star := false, part := .whole }

/-- The operation that runs next, and what stays placed behind it. DESIGN CHOICE: only a supervising
reset drawn as a turn drops the steps of a SAMPLE at the head; a reset that is itself placed keeps all
that stands behind it, so a step of SAMPLE there whose phase the reset has left faults (logs 7, 19). -/
def selected (s : State) : Slot × List Slot :=
  match s.queue with
  | [] => (turnSlot s.arch.adc.phase (Config.turn s.draws), [])
  | slot :: rest =>
    match gapTurn slot.part s.draws with
    | none => (slot, rest)
    | some turn => (turnSlot s.arch.adc.phase turn, keptAfter turn (slot :: rest))

/-- The operation that runs next. -/
def nextSlot (s : State) : Slot := (selected s).1

/-- The state in which it runs: taken off the schedule, ENV's answers in place. -/
def fetched (s : State) : State :=
  takeAnswers ((nextSlot s).answers.getD (Config.answers s.draws)) { s with queue := (selected s).2 }

/-- The `*` of 30_encoding.md rule R75: a repeated step whose phase did not change runs again, with
free answers (log 19). -/
def requeue (slot : Slot) (before after : State) : State :=
  if slot.star ∧ after.arch.adc.phase = before.arch.adc.phase then
    { after with queue := { slot with answers := none } :: after.queue }
  else after

/-- What a code does that its decoder refuses. A host frame is dropped with no change to `S` and no
response (30_encoding.md rule R71, log 6). A 16-bit word to the ADC that the typed builder does not
make still reaches the chip (R62, R72). Any other such code is no operation and is dropped (log 35). -/
def rejected (c : Code) (s : State) : State :=
  match c with
  | .spiOut [hi, lo] => spiWrite16 (hi ++ lo) s
  | .spiOut _ | .host _ | .step _ _ | .spiIn _ | .password _ | .asm _ => s

/-- The ADC phase an internal step needs to be selected (10_state.md rule R23); others keep it. -/
def phaseFor (i : Option Instr) (phase : AdcPhase) : AdcPhase :=
  if i = some .adcConfigure then .configure
  else if i = some .adcDelay then .delay
  else if i = some .adcWaitDrdy then .waitDrdy
  else if i = some .adcRead then .read
  else phase

/-- Place one operation at the head of the schedule, with ENV's present inputs as its answers and
no time passed; an ADC step also selects its phase (log 5). -/
def place (c : Code) (i : Option Instr) (s : State) : State :=
  { s.withAdc { s.arch.adc with phase := phaseFor i s.arch.adc.phase } with
    queue := { code := c, answers := some ⟨0, s.env.inputs⟩, star := false, part := .whole } :: s.queue }

end Sys2Proof.Machine
end

