-- ==== Sys2Proof/Machine/Step.lean ====
section
/-!
DEFINITION. One step of the machine: select the next operation, decode it, run it.
-/

namespace Sys2Proof.Machine

/-- One atomic step (00_scope.md rule R10). -/
def step (s : State) : Host.Outcome State Fault Refusal :=
  match decode (nextSlot s).code with
  | .ok i =>
    match exec i (fetched s) with
    | .next t => .next (requeue (nextSlot s) (fetched s) t)
    | .fault f => .fault f
    | .refused r => .refused r
  | .error _ => .next (rejected (nextSlot s).code (fetched s))

/-- `s` with the operation of a table word placed where `step` takes its next one. -/
def State.withFetchWord (s : State) (nbits w : Nat) : State :=
  place (codeOfTableWord nbits w) (decodeTableWord nbits w) s

end Sys2Proof.Machine
end

