-- ==== Sys2Proof/Safety.lean ====
section
/-!
DEFINITION. What counts as a good state of the block, in the terms the statements use: the ranges
and relations the rules say every reachable state keeps.
-/

namespace Sys2Proof.Machine

/-- A moving average of length `len` over values in `[lo, hi]`, 10_state.md rule R22: the shape at
all times, and once initialised the running sum is the sum of the slots. -/
def windowOk (len : Nat) (lo hi : Int) (m : MovAvg) : Prop :=
  m.slot.length = len ∧ m.pos < len
    ∧ (m.init = true → m.sum = m.slot.sum ∧ ∀ x ∈ m.slot, lo ≤ x ∧ x ≤ hi)

/-- No calibration set holds a zero divisor, 10_state.md rule R32. -/
def divisorsNonzero (s : State) : Prop :=
  s.arch.factory.div ≠ 0 ∧ s.arch.user.params.div ≠ 0

/-- The ranges and relations of a reachable state. -/
structure Safe (s : State) : Prop where
  /-- 10_state.md rule R32 -/
  divisors : divisorsNonzero s
  /-- 45_output_guard.md rule R211 -/
  duty : 80 ≤ s.arch.out.duty.toNat ∧ s.arch.out.duty.toNat ≤ 1000
  /-- 10_state.md rule R35 -/
  step : s.arch.cal.step.toNat ≤ 16
  /-- 10_state.md rule R29 -/
  countdowns : s.arch.cp.invalid.toNat ≤ 4 ∧ s.arch.pp.invalid.toNat ≤ 4
  /-- 10_state.md rule R28 -/
  resistances : s.arch.cp.resistance.toNat ≤ 0xFFFF ∧ s.arch.pp.resistance.toNat ≤ 0xFFFF
  /-- 10_state.md rules R22 and R26 -/
  cpWindow : windowOk 4 0 0xFFFF s.arch.cp.resAvg
  /-- 10_state.md rules R22 and R27 -/
  ppWindow : windowOk 4 0 0xFFFF s.arch.pp.resAvg
  /-- 10_state.md rules R22 and R30 -/
  ccWindow : windowOk Config.params.calAvgLen (-32768) 32767 s.arch.cc.avg
  /-- 10_state.md rule R30 -/
  ccQueue : s.arch.cc.queue.length = Config.params.calQueueLen
    ∧ s.arch.cc.qpos < Config.params.calQueueLen
  /-- 10_state.md rule R24: TEMP is never written -/
  channel : s.arch.adc.channel ≠ .temp
  /-- 45_output_guard.md rule R213 -/
  relay : s.arch.out.contactor = true → s.arch.sm.state = .c

/-- Nothing is placed in the schedule: the agents' turns alone decide what runs (log 3). -/
def idle (s : State) : Prop := s.queue = []

end Sys2Proof.Machine
end

