-- ==== Sys2Proof/Certificates/Slice0/Obligations.lean ====
section
/-!
DEFINITION. The statements for the provers, one `def Obligations.<Name> : Prop` each, listed in
OBLIGATIONS.json. The few definitions before them are shorthand used by several statements.
Throughout, an answer is appended to `responses` and an event to `trace` (log 29), and a
persistence page is a record the block saved last, else ENV's (log 28).
-/

open Sys2Proof Sys2Proof.Machine

/-! ### Shorthand -/

/-- The request lengths of 30_encoding.md rule R68, in bytes. -/
def Sys2Proof.Spec.requestBytes : List (Byte × Nat) :=
  [(0x01, 1), (0x02, 1), (0x03, 1), (0x04, 1), (0x05, 1), (0x10, 5), (0x11, 1), (0x12, 1),
    (0x20, 8), (0x21, 5), (0x30, 2), (0x31, 42)]

/-- The four grounds of 30_encoding.md rule R71 for refusing a host frame; a frame with no byte
has no opcode. -/
def Sys2Proof.Spec.frameRefused (bytes : List Byte) : Prop :=
  match bytes with
  | [] => True
  | op :: pay =>
    op ∉ Sys2Proof.Spec.requestBytes.map Prod.fst
      ∨ (∃ n, (op, n) ∈ Sys2Proof.Spec.requestBytes ∧ bytes.length ≠ n)
      ∨ (op = 0x31 ∧ 1 < (pay.getD 4 0).toNat)
      ∨ (op = 0x30 ∧ 2 < (pay.getD 0 0).toNat)

/-- The effective set spelled out, 10_state.md rule R34. -/
def Sys2Proof.Spec.effective (a : Arch) : CalParams :=
  if a.user.active = true ∧ a.cal.step = 0 then a.user.params else a.factory

/-- `Defaults()`, 70_reset_and_hazards.md rule R262. -/
def Sys2Proof.Spec.defaults : CalParams where
  mul := 1
  div := 1
  diff := -50
  ref2700 := Config.params.defaultRef2700
  ref880 := Vector.replicate 14 Config.params.defaultRef880

/-- What a load of the factory page answers, 20_memory.md rule R59 and 70_reset_and_hazards.md rule
R262: the page saved last, else ENV's, and the defaults where the magic field or the divisor is bad. -/
def Sys2Proof.Spec.factoryLoaded (s : State) : CalParams :=
  match s.pages.factory.or s.env.inputs.factoryPage with
  | some page =>
    if page.magic = Config.params.magic ∧ page.params.div ≠ 0 then page.params
    else Sys2Proof.Spec.defaults
  | none => Sys2Proof.Spec.defaults

/-- The same for the user page. -/
def Sys2Proof.Spec.userLoaded (s : State) : UserSet :=
  match s.pages.user.or s.env.inputs.userPage with
  | some page =>
    if page.magic = Config.params.magic ∧ page.params.div ≠ 0 then ⟨page.active, page.params⟩
    else ⟨false, Sys2Proof.Spec.defaults⟩
  | none => ⟨false, Sys2Proof.Spec.defaults⟩

/-- The state after an ADC read whose sample left the record `a`, 40_adc_transport.md rule R99: the
other channel is next, the phase is Configure, and the read exchange is in the trace. A single-shot
chip is powered down by the read (log 14). -/
def Sys2Proof.Spec.afterRead (s : State) (a : Arch) : State :=
  { s with
    arch := { a with adc := { s.arch.adc with
      channel := if s.arch.adc.channel = .cp then .pp else .cp, phase := .configure } }
    chip := { s.chip with
      activity := if s.chip.activity = .single then .poweredDown else s.chip.activity }
    chipSelect := false
    trace := s.trace ++ [.spiRead s.env.inputs.spiWord, .cs false] }

/-- What the tick's actuation of the state that `u` is in leads to: one call of SET_OUTPUT, in state A
after the button flag is cleared (44_iec61851_state_machine.md rules R191 and R192). -/
def Sys2Proof.Spec.actuated (ma : Nat) (u v : State) : Prop :=
  let duty : U16 := BitVec.ofNat 16 (dutyForCurrent ma)
  match u.arch.sm.state with
  | .a =>
    exec (.setOutput 1000 false) { u with
      arch := { u.arch with sm := { u.arch.sm with buttonPressed := false } } } = .next v
  | .b => exec (.setOutput duty false) u = .next v
  | .c => exec (.setOutput duty true) u = .next v
  | .d | .ef => exec (.setOutput 1000 false) u = .next v

/-- A factory session that started in `s`, with `u` before and `t` after its step 16: what it captured,
saved, drove and answered (43_factory_calibration.md rules R159 to R162 and R164). -/
def Sys2Proof.Spec.sessionCompleted (v0 v16 : I16) (s : State) (rest : List Slot) (u t : State) : Prop :=
  let high : I16 := s.arch.cp.highVoltage.setWidth 16
  u.arch.cal.step = 16 ∧
  u.arch.factory =
    { mul := v0, div := s.arch.cp.voltage, diff := s.arch.factory.diff, ref2700 := high
      ref880 := Vector.replicate 14 high } ∧
  u.arch.out.duty = 566 ∧ u.arch.out.contactor = false ∧
  u.arch.cp = { s.arch.cp with invalid := u.arch.cp.invalid } ∧
  t.arch.factory = { u.arch.factory with diff := Config.params.diffCapture u.arch v16 } ∧
  t.arch.cal.step = 0 ∧
  t.pages.factory = some ⟨Config.params.magic, t.arch.factory⟩ ∧
  t.arch.user = s.arch.user ∧ t.arch.sm = s.arch.sm ∧
  t.arch.out.duty = 1000 ∧ t.arch.out.contactor = false ∧
  t.queue = rest ∧
  t.responses = s.responses ++ List.replicate 17 (.ok true)

/-- The events only the Output Guard and the resets emit, 45_output_guard.md rule R210. -/
def Sys2Proof.Spec.guardEvent : Event → Bool
  | .pwmSet _ | .relaySet _ | .lockRequest _ | .ccInvalidate _ => true
  | .spiWrite _ | .spiRead _ | .cs _ | .arbDisconnect | .arbButton _ | .arbSetMax _
  | .indicatorReset | .persistSaved _ _ | .error _ => false

/-- One applied input of a moving average, 41_signal_pipeline.md rule R110. -/
def Sys2Proof.Spec.feed (len : Nat) (m : MovAvg) (x : Int) : MovAvg := (maUpdate m len x).1

/-- The low 8 bits of a session step number. -/
abbrev Sys2Proof.Spec.stepByte (n : Nat) : U8 := BitVec.ofNat 8 n

/-- `0x0BB03200 + n`, 30_encoding.md rule R66. -/
abbrev Sys2Proof.Spec.sessionPassword (n : Nat) : U32 := 0x0BB03200 + BitVec.ofNat 32 n

/-! ### Encodings -/

/-- Decoding an encoded well-formed operation gives it back, operands and all
(30_encoding.md rules R63, R66 to R70). -/
def Obligations.EncodedOperationsDecode : Prop :=
  ∀ i : Instr, i.wellFormed = true → decode (encode i) = .ok i

/-- Every code the decoder accepts is, on its port, the encoding of the operation it reads; of an
internal step only the row's bytes are, since the operands its caller hands over ride beside them (the
model's choice, log 2) and a step without operands drops them (30_encoding.md rules R66 to R71). -/
def Obligations.AcceptedCodesReencode : Prop :=
  ∀ (c : Code) (i : Instr), decode c = .ok i →
    i.wellFormed = true ∧
      match c with
      | .step bytes _ => ∃ args, encode i = .step bytes args
      | .host _ | .spiOut _ | .spiIn _ | .password _ | .asm _ => encode i = c

/-- A host frame is refused on the grounds of rule R71 and on no other; and a refused frame placed in
the schedule is dropped, with `S`, the responses, the trace, the pages and the chip as they were,
whatever ENV answers (30_encoding.md rule R71; that a refused frame takes a step which drops it is the
model's reading, log 6, on the model's own schedule, log 3). -/
def Obligations.HostFramesRefusedExactly : Prop :=
  (∀ bytes : List Byte,
    (∃ i, decode (.host bytes) = .ok i) ↔ ¬ Sys2Proof.Spec.frameRefused bytes) ∧
  ∀ (bytes : List Byte) (s : State) (slot : Slot) (rest : List Slot),
    s.queue = slot :: rest → gapTurn slot.part s.draws = none →
    slot.code = .host bytes → Sys2Proof.Spec.frameRefused bytes →
    ∃ t, step s = .next t ∧ t.arch = s.arch ∧ t.responses = s.responses ∧ t.trace = s.trace
      ∧ t.pages = s.pages ∧ t.chip = s.chip ∧ t.chipSelect = s.chipSelect ∧ t.queue = rest

/-- Words written out from the encoding tables decode to the operation they stand for
(30_encoding.md rules R63, R64, R66, R68, R69; the frames and words of 95_test_vectors.md V30-1 to
V30-3). -/
def Obligations.SpecWordsDecode : Prop :=
  decode (.host [0x01]) = .ok .getState
  ∧ decode (.host [0x10, 0xC8, 0x32, 0x00, 0x00]) = .ok (.setMaxCurrent 13000)
  ∧ decode (.host [0x20, 0x00, 0x00, 0x32, 0xB0, 0x0B, 0xE0, 0x2E])
      = .ok (.calStep 0 0x0BB03200 12000)
  ∧ decode (.host [0x20, 0x10, 0x10, 0x32, 0xB0, 0x0B, 0xCE, 0xFF])
      = .ok (.calStep 16 0x0BB03210 (-50))
  ∧ decode (.host [0x21, 0x05, 0x32, 0xB0, 0x0B]) = .ok (.calAbort 0x0BB03205)
  ∧ decode (.host [0x30, 0x02]) = .ok (.getCalibration .effective)
  ∧ decode (.step [0x80] .none) = .ok .adcConfigure
  ∧ decode (.step [0x88] .none) = .ok .tick
  ∧ decode (.spiOut [0xC3, 0x0B]) = .ok (.ads1118CfgNormal 0b100 0b001)
  ∧ decode (.spiOut [0x52, 0x4B]) = .ok (.ads1118CfgFast 0b101 0b001)
  ∧ decode (.spiOut [0x83, 0x1B]) = .ok (.ads1118CfgTemp 0b001)
  ∧ decode (.spiIn [0x7B, 0x9B]) = .ok (.ads1118Sample 31643)
  ∧ decode (.password [0x05, 0x32, 0xB0, 0x0B]) = .ok (.calPassword 5)

/-- The typed builder `cfg(channel, mode)` field by field, for all parameters, and its five words for
the reference parameters (30_encoding.md rule R63). -/
def Obligations.ConfigWordBuilderFields : Prop :=
  (∀ (P : Machine.Params) (ch : Channel) (m : AdcMode),
    let w := cfgWord P ch m
    w.extractLsb' 15 1 = (if m = .normal then 1#1 else 0#1)
    ∧ w.extractLsb' 12 3
        = (match ch with | .cp => P.muxCp | .pp => P.muxPp | .temp => 0b000#3)
    ∧ w.extractLsb' 9 3 = P.pga
    ∧ w.extractLsb' 8 1 = (if m = .normal then 1#1 else 0#1)
    ∧ w.extractLsb' 5 3 = (if m = .normal then 0b000#3 else 0b010#3)
    ∧ w.extractLsb' 4 1 = (if ch = .temp then 1#1 else 0#1)
    ∧ w.extractLsb' 3 1 = 1#1
    ∧ w.extractLsb' 1 2 = 0b01#2
    ∧ w.extractLsb' 0 1 = 1#1) ∧
  ∀ P : Machine.Params, P.muxCp = 0b100 → P.muxPp = 0b101 → P.pga = 0b001 →
    cfgWord P .cp .normal = 0xC30B ∧ cfgWord P .pp .normal = 0xD30B
    ∧ cfgWord P .cp .fast = 0x424B ∧ cfgWord P .pp .fast = 0x524B
    ∧ cfgWord P .temp .normal = 0x831B

/-- The password of session step `n` is `0x0BB03200 + n`: its word decodes to CAL_PASSWORD of that
step and to no step above 16, CAL_PASSWORD yields it (log 18), and it is the one password CAL_STEP
of step `n` takes (30_encoding.md rule R66; 43_factory_calibration.md rule R156). -/
def Obligations.PasswordOfSessionStep : Prop :=
  (∀ n : Nat, n ≤ 16 →
    decode (.password (bytes32 (Sys2Proof.Spec.sessionPassword n)))
      = .ok (.calPassword (BitVec.ofNat 5 n))) ∧
  (∀ n : Nat, 16 < n → n < 32 → ∀ i : Instr,
    decode (.password (bytes32 (Sys2Proof.Spec.sessionPassword n))) ≠ .ok i) ∧
  (∀ (n : Nat) (s : State), n ≤ 16 →
    exec (.calPassword (BitVec.ofNat 5 n)) s
      = .next { s with
          responses := s.responses ++ [.password (Sys2Proof.Spec.sessionPassword n)] }) ∧
  ∀ (n : Nat) (w : U32) (value : I16) (s : State), n ≤ 16 → w ≠ Sys2Proof.Spec.sessionPassword n →
    exec (.calStep (Sys2Proof.Spec.stepByte n) w value) s
      = .next { s with responses := s.responses ++ [.ok false] }

/-! ### The step -/

/-- When no agent's turn comes first, the operation at the head of the schedule is taken off it and runs
in the state where ENV's answers are in place and nothing else has changed. If it decodes to `i` the
step is `exec i`: a starred operation whose ADC phase did not change goes back to the head of the
schedule with free answers, a fault of `exec` is the step's, and no meaning refuses. If its decoder
refuses it, a 16-bit word to the ADC still reaches the chip and the trace, and anything else is dropped.
No step refuses (00_scope.md rule R10, 10_state.md rule R21, 30_encoding.md rules R62, R71, R72, R75;
the schedule and what a refused code does in it are the model's own, logs 3, 6, 19 and 35). -/
def Obligations.StepRunsDecodedOperation : Prop :=
  (∀ (s : State) (slot : Slot) (rest : List Slot),
    s.queue = slot :: rest → gapTurn slot.part s.draws = none →
    let answers := slot.answers.getD (Config.answers s.draws)
    let s' : State :=
      { s with
        env := { now := s.env.now + answers.elapsed.setWidth 32, inputs := answers.inputs }
        queue := rest
        draws := s.draws + 1 }
    (∀ i : Instr, decode slot.code = .ok i →
      (slot.star = false → step s = exec i s') ∧
      (slot.star = true → ∀ t, exec i s' = .next t →
        step s = .next (if t.arch.adc.phase = s.arch.adc.phase
          then { t with queue := { slot with answers := none } :: t.queue } else t)) ∧
      (∀ f, exec i s' = .fault f → step s = .fault f) ∧
      ∀ r, exec i s' ≠ .refused r) ∧
    ((∀ i : Instr, decode slot.code ≠ .ok i) →
      (∀ hi lo : Byte, slot.code = .spiOut [hi, lo] →
        step s = .next ((chipReceives (hi ++ lo) s').emit (.spiWrite (hi ++ lo)))) ∧
      ((∀ hi lo : Byte, slot.code ≠ .spiOut [hi, lo]) → step s = .next s'))) ∧
  ∀ (s : State) (r : Refusal), step s ≠ .refused r

/-- With nothing placed, and where the scheduler gives an agent a turn before the next part of an
expansion, the step runs that agent, and it never stops: the ADC task runs the step of its phase, TICK a
tick, the host its frame (dropped where the decoder refuses it), and ENV the supervising reset. What is
placed stays, but that a supervising reset ends the conversion of a SAMPLE at the head. The ADC task's
turn never comes before a step of SAMPLE, which is that turn, and no turn before an operation placed for
itself (00_scope.md rules R10 and R11, 30_encoding.md rules R71 and R75, 40_adc_transport.md rules R91
and R92, 46_host_commands.md rule R225; the schedule and the streams of turns and answers are the
model's own, logs 3, 4 and 19, and the dropped frame is its reading, log 6). -/
def Obligations.IdleStepRunsAnAgent : Prop :=
  (∀ s : State,
    turnDue s =
      match s.queue with
      | [] => some (Config.turn s.draws)
      | slot :: _ =>
        if slot.part = .whole ∨ (slot.part = .conversion ∧ Config.gap s.draws = some .adc) then none
        else Config.gap s.draws) ∧
  ∀ (s : State) (turn : Turn), turnDue s = some turn →
    let answers := Config.answers s.draws
    let kept := if turn = .supervisingReset
      then s.queue.dropWhile (fun slot => slot.part = .conversion) else s.queue
    let s' : State :=
      { s with
        env := { now := s.env.now + answers.elapsed.setWidth 32, inputs := answers.inputs }
        queue := kept
        draws := s.draws + 1 }
    ∃ t, step s = .next t ∧ t.queue = kept ∧
      match turn with
      | .adc =>
        exec (match s.arch.adc.phase with
          | .configure => .adcConfigure
          | .delay => .adcDelay
          | .waitDrdy => .adcWaitDrdy
          | .read => .adcRead) s' = .next t
      | .tick => exec .tick s' = .next t
      | .supervisingReset => exec .resetSupervising s' = .next t
      | .host frame =>
        (∀ i, decode (.host frame) = .ok i → exec i s' = .next t) ∧
        ((∀ i, decode (.host frame) ≠ .ok i) → t = s')

/-- Time never goes backward: two successive answers differ by less than 2^31 ms, and no operation
changes the answers of its own step (60_exceptions.md rule R248; the bound is the model's reading,
log 4). -/
def Obligations.TimeNeverGoesBackward : Prop :=
  (∀ s t : State, step s = .next t → (t.env.now - s.env.now).toNat < 2 ^ 31) ∧
  ∀ (i : Instr) (s t : State), exec i s = .next t → t.env = s.env

/-! ### Invariants -/

/-- Every step of the agents keeps the ranges and relations of a reachable state: nonzero divisors,
duty in `[80, 1000]`, session step at most 16, countdowns at most 4, resistances at most `0xFFFF`,
well-formed windows and queue, no TEMP channel, and the relay engaged only in state C (10_state.md
rules R22, R24, R28 to R30, R32, R35; 45_output_guard.md rules R211, R213). -/
def Obligations.AgentStepsKeepSafe : Prop :=
  ∀ s t : State, idle s → Safe s → step s = .next t → Safe t ∧ idle t

/-- The state after reset has those ranges and relations, and nothing is placed in its schedule
(70_reset_and_hazards.md rules R260, R263, R264; what those rules leave open in the reset state is the
model's choice, logs 8, 10, 11 and 12). -/
def Obligations.ResetStateIsSafe : Prop :=
  Safe State.reset ∧ idle State.reset

/-- No step at all writes a zero divisor into a calibration set, placed operations included
(10_state.md rule R32). -/
def Obligations.DivisorsStayNonzero : Prop :=
  ∀ s t : State, divisorsNonzero s → step s = .next t → divisorsNonzero t

/-! ### Rules over all operations -/

/-- Which operations write which field of `S`: every operation outside a field's list leaves the
field unchanged (10_state.md rule R44). -/
def Obligations.FieldsHaveTheirWritersOnly : Prop :=
  ∀ (i : Instr) (s t : State), exec i s = .next t →
    let resets := ["RESET_POWER_ON", "RESET_SUPERVISING"]
    let session := ["CAL_STEP", "CAL_PASS", "CAL_ABORT"]
    let guard := ["SET_OUTPUT", "TICK"] ++ session ++ resets
    (i.mnemonic ∉ ["ADC_CONFIGURE", "ADC_DELAY", "ADC_WAIT_DRDY", "ADC_READ"] ++ resets →
      t.arch.adc = s.arch.adc) ∧
    (i.mnemonic ∉ ["ADC_READ"] ++ resets →
      t.arch.cp.raw = s.arch.cp.raw ∧ t.arch.pp.raw = s.arch.pp.raw) ∧
    (i.mnemonic ∉ ["ADC_READ", "UPDATE_CP"] ++ resets →
      t.arch.cp.voltage = s.arch.cp.voltage ∧ t.arch.cp.calVoltage = s.arch.cp.calVoltage
      ∧ t.arch.cp.highVoltage = s.arch.cp.highVoltage
      ∧ t.arch.cp.resistance = s.arch.cp.resistance ∧ t.arch.cp.resAvg = s.arch.cp.resAvg) ∧
    (i.mnemonic ∉ ["ADC_READ", "UPDATE_PP"] ++ resets →
      t.arch.pp.voltage = s.arch.pp.voltage ∧ t.arch.pp.resistance = s.arch.pp.resistance
      ∧ t.arch.pp.resAvg = s.arch.pp.resAvg) ∧
    (i.mnemonic ∉ ["ADC_READ"] ++ guard →
      t.arch.cp.invalid = s.arch.cp.invalid ∧ t.arch.pp.invalid = s.arch.pp.invalid) ∧
    (i.mnemonic ∉ ["ADC_READ", "UPDATE_CP", "CC_UPDATE"] ++ resets → t.arch.cc = s.arch.cc) ∧
    (i.mnemonic ∉ session ++ ["RESET_POWER_ON"] → t.arch.factory = s.arch.factory) ∧
    (i.mnemonic ∉ ["SET_USER_CALIBRATION", "RESET_POWER_ON"] → t.arch.user = s.arch.user) ∧
    (i.mnemonic ∉ session ++ resets → t.arch.cal = s.arch.cal) ∧
    (i.mnemonic ∉ ["TICK", "SET_STATE", "START_CHARGING", "STOP_CHARGING"] ++ resets →
      t.arch.sm = s.arch.sm) ∧
    (i.mnemonic ∈ ["START_CHARGING", "STOP_CHARGING"] →
      t.arch.sm = { s.arch.sm with buttonPressed := true }) ∧
    (i.mnemonic ∉ guard → t.arch.out = s.arch.out)

/-- The trace and the responses only grow, at most one response an operation; ENV's answers and the
generic config page are never written; the factory and user pages change only with the
`PersistSaved` event that records the new content, and get the magic field (20_memory.md rules R51 and
R59, 60_exceptions.md rules R253 and R256, 46_host_commands.md rule R225; that the event's record goes
without the magic field is the model's reading, log 38). -/
def Obligations.OutsideEffectsAreRecorded : Prop :=
  ∀ (i : Instr) (s t : State), exec i s = .next t →
    (∃ ev, t.trace = s.trace ++ ev ∧
      (t.pages.factory = s.pages.factory ∨ ∃ params,
        t.pages.factory = some ⟨Config.params.magic, params⟩
        ∧ .persistSaved (Config.params.pageNumber .factory) (.factory params) ∈ ev) ∧
      (t.pages.user = s.pages.user ∨ ∃ active params,
        t.pages.user = some ⟨Config.params.magic, active, params⟩
        ∧ .persistSaved (Config.params.pageNumber .user) (.user ⟨active, params⟩) ∈ ev)) ∧
    (∃ out, t.responses = s.responses ++ out ∧ out.length ≤ 1) ∧
    t.env = s.env ∧ t.pages.config = s.pages.config

/-- The Output Guard is the single writer: an operation that neither is it, nor calls it, nor is a
reset emits no PWM, relay, lock or contactor-check event, writes no output field and raises no
invalidation countdown (45_output_guard.md rule R210, 41_signal_pipeline.md rule R112). -/
def Obligations.OnlyTheGuardDrivesOutputs : Prop :=
  ∀ (i : Instr) (s t : State), exec i s = .next t →
    i.mnemonic ∉ ["SET_OUTPUT", "TICK", "CAL_STEP", "CAL_PASS", "CAL_ABORT", "RESET_POWER_ON",
      "RESET_SUPERVISING"] →
    t.arch.out = s.arch.out ∧ t.arch.cp.invalid.toNat ≤ s.arch.cp.invalid.toNat ∧
      t.arch.pp.invalid.toNat ≤ s.arch.pp.invalid.toNat ∧
      ∃ ev, t.trace = s.trace ++ ev ∧ ∀ e ∈ ev, Sys2Proof.Spec.guardEvent e = false

/-- The relay is engaged only with the lock closed: an operation that emits `RelaySet(true)`, or that
turns `S.out.contactor` on, does so with the lock state `Closed` (45_output_guard.md rule R212). -/
def Obligations.RelayEngagesOnlyWithLockClosed : Prop :=
  ∀ (i : Instr) (s t : State) (ev : List Event), exec i s = .next t → t.trace = s.trace ++ ev →
    (.relaySet true ∈ ev ∨ (s.arch.out.contactor = false ∧ t.arch.out.contactor = true)) →
    s.env.inputs.lockState = .closed ∧ t.arch.out.contactor = true ∧ .relaySet true ∈ ev

/-- A running charging timer keeps its start until the state becomes A or a reset, and a timer starts
only on entering C (44_iec61851_state_machine.md rules R190 and R195). -/
def Obligations.ChargingTimerRunsUntilA : Prop :=
  ∀ (i : Instr) (s t : State), exec i s = .next t →
    i.mnemonic ∉ ["RESET_POWER_ON", "RESET_SUPERVISING"] →
    (∀ x, s.arch.sm.chargingStart = some x →
      t.arch.sm.chargingStart = some x
        ∨ (t.arch.sm.chargingStart = none ∧ t.arch.sm.state = .a ∧ s.arch.sm.state ≠ .a)) ∧
    (∀ x, s.arch.sm.chargingStart = none → t.arch.sm.chargingStart = some x →
      t.arch.sm.state = .c ∧ s.arch.sm.state ≠ .c ∧ t.arch.sm.lastStateChange = x)

/-- A tick never enters C from EF, nor within 30000 ms of the last error time; a tick that leaves EF
stamps the error time with its own time (44_iec61851_state_machine.md rules R188, R189). -/
def Obligations.HoldOffKeepsTicksOutOfC : Prop :=
  ∀ s t : State, exec .tick s = .next t →
    (s.arch.sm.state ≠ .c → t.arch.sm.state = .c →
      s.arch.sm.state ≠ .ef ∧
      ∀ e, s.arch.sm.lastErrorTime = some e → 30000 ≤ (s.env.now - e).toNat) ∧
    (s.arch.sm.state = .ef → t.arch.sm.state ≠ .ef →
      t.arch.sm.lastErrorTime = some s.env.now) ∧
    (s.arch.sm.state ≠ .ef → t.arch.sm.lastErrorTime = s.arch.sm.lastErrorTime)

/-- No operation reads the contactor-check collaborator's `state`: from states that differ in that
input alone, every operation has the same outcome but for that input (10_state.md rule R21,
60_exceptions.md rule R251). -/
def Obligations.ContactorCheckStateIsNeverRead : Prop :=
  ∀ (i : Instr) (s : State) (x : U32),
    let other (u : State) : State :=
      { u with env := { u.env with inputs := { u.env.inputs with ccState := x } } }
    exec i (other s) =
      match exec i s with
      | .next t => .next (other t)
      | .fault f => .fault f
      | .refused r => .refused r

/-! ### Host commands -/

/-- GET_STATE answers the coded state, the applied duty, the relay, the charging time, the session
step and the button flag, and changes nothing; after either reset it answers
`(4, 1000, false, 0, 0, false)` (46_host_commands.md rule R215, 44_iec61851_state_machine.md rule
R195). -/
def Obligations.GetStateAnswers : Prop :=
  decode (.host [0x01]) = .ok .getState ∧
  (∀ (s : State) (i : Instr), i ∈ [Instr.resetPowerOn, .resetSupervising] →
    ∃ t u, exec i s = .next t ∧ exec .getState t = .next u ∧
      u.responses = s.responses ++ [.state 4 1000 false 0 0 false]) ∧
  ∀ s : State,
    exec .getState s = .next { s with
      responses := s.responses ++
        [.state
          (match s.arch.sm.state with | .a => 0 | .b => 1 | .c => 2 | .d => 3 | .ef => 4)
          s.arch.out.duty s.arch.out.contactor
          (match s.arch.sm.chargingStart with | some x => s.env.now - x | none => 0)
          s.arch.cal.step s.arch.sm.buttonPressed] }

/-- GET_ADC_VALUES, GET_VOLTAGES and GET_RESISTANCES answer the named fields and change nothing
(46_host_commands.md rules R216 to R218). -/
def Obligations.TelemetryGettersAnswer : Prop :=
  decode (.host [0x02]) = .ok .getAdcValues ∧ decode (.host [0x03]) = .ok .getVoltages ∧
  decode (.host [0x04]) = .ok .getResistances ∧
  ∀ s : State,
    exec .getAdcValues s = .next { s with
      responses := s.responses ++ [.adcValues s.arch.cp.raw s.arch.pp.raw] } ∧
    exec .getVoltages s = .next { s with
      responses := s.responses ++
        [.voltages s.arch.cp.voltage s.arch.cp.calVoltage s.arch.cp.highVoltage s.arch.pp.voltage
          s.arch.cc.maxVoltage s.arch.cc.minVoltage] } ∧
    exec .getResistances s = .next { s with
      responses := s.responses ++ [.resistances s.arch.cp.resistance s.arch.pp.resistance] }

/-- The response of every host command as the bytes of its layout, little-endian, and the ten bytes of
GET_STATE after a power-on reset (30_encoding.md rules R67 and R68; 95_test_vectors.md V30-5). -/
def Obligations.ResponseLayouts : Prop :=
  let bool (b : Bool) : Byte := if b = true then 1 else 0
  let half (w : BitVec 16) : List Byte := [w.extractLsb' 0 8, w.extractLsb' 8 8]
  let word (w : BitVec 32) : List Byte :=
    [w.extractLsb' 0 8, w.extractLsb' 8 8, w.extractLsb' 16 8, w.extractLsb' 24 8]
  (∀ (st : U8) (duty : U16) (contactor : Bool) (ms : U32) (step : U8) (button : Bool),
    responseBytes (.state st duty contactor ms step button)
      = [st] ++ half duty ++ [bool contactor] ++ word ms ++ [step, bool button]) ∧
  (∀ cpRaw ppRaw : I16, responseBytes (.adcValues cpRaw ppRaw) = half cpRaw ++ half ppRaw) ∧
  (∀ (v cal : I16) (high : I32) (pp max min : I16),
    responseBytes (.voltages v cal high pp max min)
      = half v ++ half cal ++ word high ++ half pp ++ half max ++ half min) ∧
  (∀ cp pp : U32, responseBytes (.resistances cp pp) = word cp ++ word pp) ∧
  (∀ ma : U32, responseBytes (.ppCurrent ma) = word ma) ∧
  (∀ ok : Bool, responseBytes (.ok ok) = [bool ok]) ∧
  (∀ (active : Bool) (p : CalParams),
    (responseBytes (.calibration active p)).length = 37 ∧
    (responseBytes (.calibration active p)).take 9
      = [bool active] ++ half p.mul ++ half p.div ++ half p.diff ++ half p.ref2700 ∧
    ∀ i : Fin 14,
      ((responseBytes (.calibration active p)).drop (9 + 2 * i.val)).take 2 = half p.ref880[i]) ∧
  responseBytes (.state 4 1000 false 0 0 false)
    = [0x04, 0xE8, 0x03, 0x00, 0x00, 0x00, 0x00, 0x00, 0x00, 0x00]

/-- GET_PP_CURRENT answers one fixed function of the published PP resistance, 13000 mA at 900 ohm, and
changes nothing (46_host_commands.md rule R219, 44_iec61851_state_machine.md rule R194). -/
def Obligations.GetPpCurrentAnswers : Prop :=
  decode (.host [0x05]) = .ok .getPpCurrent ∧
  ∃ f : U32 → U32, f 900 = 13000 ∧
    ∀ s : State, exec .getPpCurrent s = .next { s with
      responses := s.responses ++ [.ppCurrent (f s.arch.pp.resistance)] }

/-- GET_CALIBRATION answers the factory set, the user set or the effective set with its active bit, and
changes nothing (46_host_commands.md rule R220, 10_state.md rule R34). -/
def Obligations.GetCalibrationAnswers : Prop :=
  decode (.host [0x30, 0]) = .ok (.getCalibration .factory) ∧
  decode (.host [0x30, 1]) = .ok (.getCalibration .user) ∧
  decode (.host [0x30, 2]) = .ok (.getCalibration .effective) ∧
  (∀ which : Byte, 2 < which.toNat → decode (.host [0x30, which]) = .error .badSelector) ∧
  ∀ s : State,
    exec (.getCalibration .factory) s = .next { s with
      responses := s.responses ++ [.calibration false s.arch.factory] } ∧
    exec (.getCalibration .user) s = .next { s with
      responses := s.responses ++ [.calibration s.arch.user.active s.arch.user.params] } ∧
    ((s.arch.user.active = true ∧ s.arch.cal.step = 0) →
      exec (.getCalibration .effective) s = .next { s with
        responses := s.responses ++ [.calibration true s.arch.user.params] }) ∧
    ((s.arch.user.active = false ∨ s.arch.cal.step ≠ 0) →
      exec (.getCalibration .effective) s = .next { s with
        responses := s.responses ++ [.calibration false s.arch.factory] })

/-- SET_MAX_CURRENT emits `ArbSetMax(ma)` and writes no state, for every `ma`
(46_host_commands.md rule R223). -/
def Obligations.SetMaxCurrentNotifies : Prop :=
  ∀ (ma : U32) (s : State),
    decode (.host [0x10, ma.extractLsb' 0 8, ma.extractLsb' 8 8, ma.extractLsb' 16 8,
      ma.extractLsb' 24 8]) = .ok (.setMaxCurrent ma) ∧
    exec (.setMaxCurrent ma) s = .next { s with trace := s.trace ++ [.arbSetMax ma] }

/-- START_CHARGING and STOP_CHARGING set the button flag, emit their notification and write nothing
else (46_host_commands.md rule R224). -/
def Obligations.ChargingRequestsSetTheFlag : Prop :=
  decode (.host [0x11]) = .ok .startCharging ∧ decode (.host [0x12]) = .ok .stopCharging ∧
  ∀ s : State,
    let pressed : Arch := { s.arch with sm := { s.arch.sm with buttonPressed := true } }
    exec .startCharging s
      = .next { s with arch := pressed, trace := s.trace ++ [.arbButton .start] } ∧
    exec .stopCharging s
      = .next { s with arch := pressed, trace := s.trace ++ [.arbButton .stop] }

/-- SET_USER_CALIBRATION with the right password and a nonzero divisor writes the user set, saves its
page and answers true; otherwise it answers false and writes nothing (46_host_commands.md rule R221,
60_exceptions.md rule R239; the event's record is log 38). -/
def Obligations.SetUserCalibrationWritesOrRejects : Prop :=
  ∀ (password : U32) (active : Bool) (p : CalParams) (s : State),
    ((password = Config.params.userCalPassword ∧ p.div ≠ 0) →
      exec (.setUserCalibration password active p) s = .next { s with
        arch := { s.arch with user := ⟨active, p⟩ }
        pages := { s.pages with user := some ⟨Config.params.magic, active, p⟩ }
        trace := s.trace ++ [.persistSaved (Config.params.pageNumber .user)
          (.user ⟨active, p⟩)]
        responses := s.responses ++ [.ok true] }) ∧
    ((password ≠ Config.params.userCalPassword ∨ p.div = 0) →
      exec (.setUserCalibration password active p) s
        = .next { s with responses := s.responses ++ [.ok false] })

/-- Round trip: after an accepted SET_USER_CALIBRATION, GET_CALIBRATION of the user set answers the
exact values written, the factory set is unchanged, an inactive user set makes the effective set the
factory set, and a power-on init loads the values back (46_host_commands.md rule R222,
20_memory.md rule R59). -/
def Obligations.UserCalibrationRoundTrip : Prop :=
  ∀ (active : Bool) (p : CalParams) (s : State), p.div ≠ 0 →
    ∃ t, exec (.setUserCalibration Config.params.userCalPassword active p) s = .next t ∧
      (∃ u, exec (.getCalibration .user) t = .next u
        ∧ u.responses = s.responses ++ [.ok true, .calibration active p]) ∧
      (∃ u, exec (.getCalibration .factory) t = .next u
        ∧ u.responses = s.responses ++ [.ok true, .calibration false s.arch.factory]) ∧
      (active = false → ∃ u, exec (.getCalibration .effective) t = .next u
        ∧ u.responses = s.responses ++ [.ok true, .calibration false s.arch.factory]) ∧
      ∃ u, exec .resetPowerOn t = .next u ∧ u.arch.user = ⟨active, p⟩

/-! ### The factory session -/

/-- A rejected CAL_STEP or CAL_ABORT answers false and has no side effect at all
(43_factory_calibration.md rule R163, with the checks of rules R156 and R165). -/
def Obligations.RejectedSessionCommandsChangeNothing : Prop :=
  (∀ (step : U8) (password : U32) (value : I16) (s : State),
    (step ≠ s.arch.cal.step ∨ password ≠ Sys2Proof.Spec.sessionPassword step.toNat
      ∨ (step = 0 ∧ s.arch.cp.resistance ≠ 0xFFFF) ∨ (step = 0 ∧ s.arch.cp.voltage = 0)) →
    exec (.calStep step password value) s
      = .next { s with responses := s.responses ++ [.ok false] }) ∧
  ∀ (password : U32) (s : State),
    (s.arch.cal.step = 0 ∨ password ≠ Sys2Proof.Spec.sessionPassword s.arch.cal.step.toNat) →
    exec (.calAbort password) s = .next { s with responses := s.responses ++ [.ok false] }

/-- Session step 0 takes the commanded value as multiplier and the published CP voltage as divisor,
moves to step 1, and touches no output (43_factory_calibration.md rule R159). -/
def Obligations.SessionStepZeroCaptures : Prop :=
  ∀ (value : I16) (s : State),
    s.arch.cal.step = 0 → s.arch.cp.resistance = 0xFFFF → s.arch.cp.voltage ≠ 0 →
    exec (.calStep 0 0x0BB03200 value) s = .next { s with
      arch := { s.arch with
        factory := { s.arch.factory with mul := value, div := s.arch.cp.voltage }
        cal := ⟨1⟩ }
      responses := s.responses ++ [.ok true] }

/-- Session steps 1 to 15: each captures the high voltage into its own reference field, calls
SET_OUTPUT with the duty of the table and the relay off, and moves to the next step
(43_factory_calibration.md rules R160, R161, R164). -/
def Obligations.SessionStepsOneToFifteenCapture : Prop :=
  ∀ (n : Nat) (value : I16) (s : State), 1 ≤ n → n ≤ 15 →
    s.arch.cal.step = Sys2Proof.Spec.stepByte n →
    let duty : U16 := [100, 133, 166, 200, 233, 266, 300, 333, 366, 400, 433, 466, 500, 533,
      566].getD (n - 1) 0
    let high : I16 := s.arch.cp.highVoltage.setWidth 16
    let factory : CalParams :=
      if n = 1 then { s.arch.factory with ref2700 := high }
      else { s.arch.factory with ref880 := s.arch.factory.ref880.setIfInBounds (n - 2) high }
    ∃ u, exec (.setOutput duty false) s = .next u ∧ u.arch.out.duty = duty ∧
      u.arch.out.contactor = false ∧
      exec (.calStep (Sys2Proof.Spec.stepByte n) (Sys2Proof.Spec.sessionPassword n) value) s
        = .next { u with
            arch := { u.arch with factory := factory, cal := ⟨Sys2Proof.Spec.stepByte (n + 1)⟩ }
            responses := s.responses ++ [.ok true] }

/-- Session step 16 captures the voltage difference through the open function `P_DIFF_CAPTURE`, calls
SET_OUTPUT with full duty and the relay off, saves the factory set and ends the session
(43_factory_calibration.md rules R162, R164; the page is log 28, the event's record log
38, the function log 22). -/
def Obligations.SessionStepSixteenPersists : Prop :=
  ∀ (value : I16) (s : State), s.arch.cal.step = 16 →
    let factory : CalParams :=
      { s.arch.factory with diff := Config.params.diffCapture s.arch value }
    let page : FactoryPage := ⟨Config.params.magic, factory⟩
    ∃ u, exec (.setOutput 1000 false) s = .next u ∧ u.arch.out.duty = 1000 ∧
      u.arch.out.contactor = false ∧
      exec (.calStep 16 0x0BB03210 value) s = .next { u with
        arch := { u.arch with factory := factory, cal := ⟨0⟩ }
        pages := { s.pages with factory := some page }
        trace := u.trace ++ [.persistSaved (Config.params.pageNumber .factory) (.factory factory)]
        responses := s.responses ++ [.ok true] }

/-- CAL_ABORT with a session running and its step's password reloads the factory set, calls SET_OUTPUT
with full duty and the relay off, and ends the session (43_factory_calibration.md rule R165,
70_reset_and_hazards.md rule R262). -/
def Obligations.SessionAbortRestores : Prop :=
  ∀ s : State, s.arch.cal.step ≠ 0 →
    ∃ u, exec (.setOutput 1000 false) s = .next u ∧ u.arch.out.duty = 1000 ∧
      u.arch.out.contactor = false ∧
      exec (.calAbort (Sys2Proof.Spec.sessionPassword s.arch.cal.step.toNat)) s = .next { u with
        arch := { u.arch with factory := Sys2Proof.Spec.factoryLoaded s, cal := ⟨0⟩ }
        responses := s.responses ++ [.ok true] }

/-- CAL_PASS is CAL_STEP with the step's own password: it completes the session step it names, with the
answer true and the session moved on, to idle after step 16, and for a step above 16 it answers false
and changes nothing (30_encoding.md rule R75, 43_factory_calibration.md rules R156, R164; that a step
above 16 is rejected in every state is the model's reading, log 27). -/
def Obligations.CalPassPerformsTheStep : Prop :=
  (∀ (step : U8) (value : I16) (s : State),
    decode (.asm (.calPass step value)) = .ok (.calPass step value) ∧
    exec (.calPass step value) s
      = exec (.calStep step (Sys2Proof.Spec.sessionPassword step.toNat) value) s) ∧
  (∀ (n : Nat) (value : I16) (s : State), n ≤ 16 → s.arch.cal.step = Sys2Proof.Spec.stepByte n →
    (n = 0 → s.arch.cp.resistance = 0xFFFF ∧ s.arch.cp.voltage ≠ 0) →
    ∃ t, exec (.calPass (Sys2Proof.Spec.stepByte n) value) s = .next t ∧
      t.arch.cal.step = Sys2Proof.Spec.stepByte (if n = 16 then 0 else n + 1) ∧
      t.responses = s.responses ++ [.ok true]) ∧
  ∀ (step : U8) (value : I16) (s : State), 16 < step.toNat →
    exec (.calPass step value) s = .next { s with responses := s.responses ++ [.ok false] }

/-- CAL_SEQUENCE puts the 17 session steps, and SAMPLE one conversion of the ADC task, in front of
what is placed, and they change nothing else; before each part other agents may have a turn
(30_encoding.md rule R75, 00_scope.md rule R11; that an expansion is placed in the schedule is the
model's choice, log 19). -/
def Obligations.PseudoInstructionsExpand : Prop :=
  (∀ (v0 v16 : I16) (s : State), ∃ slots : List Slot,
    exec (.calSequence v0 v16) s = .next { s with queue := slots ++ s.queue } ∧
    slots.map (fun x => decode x.code) =
      .ok (.calPass 0 v0)
        :: ((List.range 15).map fun k => .ok (.calPass (Sys2Proof.Spec.stepByte (k + 1)) 0))
        ++ [.ok (.calPass 16 v16)] ∧
    ∀ x ∈ slots, x.star = false ∧ x.answers = none ∧ x.part = .session) ∧
  ∀ s : State, ∃ slots : List Slot,
    exec .sample s = .next { s with queue := slots ++ s.queue } ∧
    slots.map (fun x => (decode x.code, x.star)) =
      [(.ok .adcConfigure, false), (.ok .adcDelay, true), (.ok .adcWaitDrdy, true),
        (.ok .adcRead, false)] ∧
    ∀ x ∈ slots, x.answers = none ∧ x.part = .conversion

/-- The whole factory session: from idle, with CP open and a nonzero CP voltage, the 17 session steps
placed in order complete in 17 steps whatever ENV answers, and so does CAL_SEQUENCE in 18 unless the
scheduler gives an agent a turn between its parts. The factory set holds the captured values and the
difference that `P_DIFF_CAPTURE` gives on the record as step 16 finds it, it is saved to its page, the
output is full duty with the relay off, and all 17 answers are true (43_factory_calibration.md rules
R155, R162, R164, R168; 30_encoding.md rule R75; the schedule is the model's own, logs 3 and 19). -/
def Obligations.FactorySessionCompletes : Prop :=
  (∀ (v0 v16 : I16) (s : State) (slots rest : List Slot),
    s.queue = slots ++ rest →
    slots.map (fun x => (x.code, x.star, x.part)) = (List.range 17).map (fun n =>
      (encode (.calPass (Sys2Proof.Spec.stepByte n) (if n = 0 then v0 else if n = 16 then v16 else 0)),
        false, Part.whole)) →
    s.arch.cal.step = 0 → s.arch.cp.resistance = 0xFFFF → s.arch.cp.voltage ≠ 0 →
    ∃ u t : State, Host.Core.run Sys2Proof.core 16 s = .next u ∧
      Host.Core.run Sys2Proof.core 17 s = .next t ∧
      Sys2Proof.Spec.sessionCompleted v0 v16 s rest u t) ∧
  ∀ (v0 v16 : I16) (s : State) (answers : Option Answers) (rest : List Slot),
    s.queue = ⟨encode (.calSequence v0 v16), answers, false, .whole⟩ :: rest →
    s.arch.cal.step = 0 → s.arch.cp.resistance = 0xFFFF → s.arch.cp.voltage ≠ 0 →
    (∃ k, k < 17 ∧ Config.gap (s.draws + 1 + k) ≠ none) ∨
    ∃ u t : State, Host.Core.run Sys2Proof.core 17 s = .next u ∧
      Host.Core.run Sys2Proof.core 18 s = .next t ∧
      Sys2Proof.Spec.sessionCompleted v0 v16 s rest u t

/-! ### The ADC task -/

/-- ADC_CONFIGURE in its phase sends the word of the channel and of the mode the input selects, and
notes mode, word and time; the chip takes the word and starts converting (40_adc_transport.md rule
R95; the chip's reaction is 30_encoding.md rule R62; log 13). -/
def Obligations.AdcConfigureSendsTheWord : Prop :=
  ∀ s : State, s.arch.adc.phase = .configure →
    let m : AdcMode := if s.env.inputs.fastMode = true then .fast else .normal
    let w := cfgWord Config.params s.arch.adc.channel m
    exec .adcConfigure s = .next { s with
      arch := { s.arch with
        adc := ⟨.delay, s.arch.adc.channel, m, w, s.env.now⟩ }
      chip := ⟨w, if s.env.inputs.fastMode = true then .continuous else .single⟩
      chipSelect := false
      trace := s.trace ++ [.cs true, .spiWrite w, .cs false] }

/-- ADC_DELAY in its phase stays while the first-sample delay runs, and otherwise asserts chip select
and starts the data-ready wait (40_adc_transport.md rule R96). -/
def Obligations.AdcDelayWaitsThenSelects : Prop :=
  ∀ s : State, s.arch.adc.phase = .delay →
    exec .adcDelay s = .next
      (if (s.env.now - s.arch.adc.t0).toNat < Config.params.firstSampleDelayMs then s
      else { s with
        arch := { s.arch with
          adc := { s.arch.adc with t0 := s.env.now, phase := .waitDrdy } }
        chipSelect := true
        trace := s.trace ++ [.cs true] })

/-- ADC_WAIT_DRDY in its phase: ready moves to Read whatever the time; not ready before 200 ms changes
nothing; not ready at 200 ms or later logs the timeout, sends the same word again and restarts the
wait, and a word of the typed builder leaves the chip converting under it (40_adc_transport.md rules
R97, R98, R100; 60_exceptions.md rule R236; the chip is logs 13 and 15, the line's level log 21). -/
def Obligations.AdcWaitPollsAndRetries : Prop :=
  ∀ s : State, s.arch.adc.phase = .waitDrdy →
    let ready := s.env.inputs.drdyLine = Config.params.drdyReadyLevel
    let waited := (s.env.now - s.arch.adc.t0).toNat
    (ready → exec .adcWaitDrdy s = .next { s with
      arch := { s.arch with adc := { s.arch.adc with phase := .read } } }) ∧
    (¬ ready → waited < 200 → exec .adcWaitDrdy s = .next s) ∧
    (¬ ready → 200 ≤ waited → ∃ (c : Chip) (d : Nat),
      exec .adcWaitDrdy s = .next { s with
        arch := { s.arch with adc := { s.arch.adc with t0 := s.env.now } }
        chip := c
        chipSelect := true
        draws := d
        trace := s.trace ++ [.error (.adcTimeout s.arch.adc.channel s.arch.adc.cfg), .cs false,
          .cs true, .spiWrite s.arch.adc.cfg] } ∧
      ∀ ch m, s.arch.adc.cfg = cfgWord Config.params ch m →
        c = ⟨s.arch.adc.cfg, if m = .normal then .single else .continuous⟩ ∧ d = s.draws)

/-- ADC_READ in its phase: the raw code of the channel is stored; a nonzero countdown drops by one and
nothing more is published; at zero the sample goes through UPDATE_CP or UPDATE_PP; the other channel
is next (40_adc_transport.md rule R99, 41_signal_pipeline.md rule R111; that the read powers a
single-shot chip down is the model's reading, log 14). -/
def Obligations.AdcReadProcessesTheSample : Prop :=
  ∀ s : State, s.arch.adc.phase = .read →
    let code : I16 := s.env.inputs.spiWord
    let cp : Cp := { s.arch.cp with raw := code }
    let pp : Pp := { s.arch.pp with raw := code }
    (s.arch.adc.channel = .cp → s.arch.cp.invalid ≠ 0 →
      exec .adcRead s = .next (Sys2Proof.Spec.afterRead s
        { s.arch with cp := { cp with invalid := s.arch.cp.invalid - 1 } })) ∧
    (s.arch.adc.channel = .cp → s.arch.cp.invalid = 0 →
      ∃ u, exec (.updateCp code) { s with arch := { s.arch with cp := cp } } = .next u
        ∧ exec .adcRead s = .next (Sys2Proof.Spec.afterRead s u.arch)) ∧
    (s.arch.adc.channel = .pp → s.arch.pp.invalid ≠ 0 →
      exec .adcRead s = .next (Sys2Proof.Spec.afterRead s
        { s.arch with pp := { pp with invalid := s.arch.pp.invalid - 1 } })) ∧
    (s.arch.adc.channel = .pp → s.arch.pp.invalid = 0 →
      ∃ u, exec (.updatePp code) { s with arch := { s.arch with pp := pp } } = .next u
        ∧ exec .adcRead s = .next (Sys2Proof.Spec.afterRead s u.arch))

/-- An ADC step placed while the ADC task's phase is another one's may not happen: the model stops with
a fault that names the phase (40_adc_transport.md rules R95, R96, R97, R99; log 7). -/
def Obligations.AdcStepsFaultInAnotherPhase : Prop :=
  ∀ (i : Instr) (p : AdcPhase) (s : State),
    (i, p) ∈ [(Instr.adcConfigure, AdcPhase.configure), (.adcDelay, .delay),
      (.adcWaitDrdy, .waitDrdy), (.adcRead, .read)] →
    s.arch.adc.phase ≠ p → exec i s = .fault (.stepNotEnabled s.arch.adc.phase)

/-! ### The signal pipeline -/

/-- UPDATE_CP publishes the voltage and the calibrated voltage; at duty 0 it stops there; otherwise it
publishes the high voltage and the averaged resistance, computed with the estimates of earlier
samples, and then runs CC_UPDATE (41_signal_pipeline.md rules R113, R115 to R117;
70_reset_and_hazards.md rule R270). -/
def Obligations.UpdateCpPublishes : Prop :=
  ∀ (code : I16) (s : State), divisorsNonzero s →
    let e := Sys2Proof.Spec.effective s.arch
    let v := cpVoltage code.toInt
    let cal : I16 := BitVec.ofInt 16 (Int.tdiv (v.toInt * e.mul.toInt) e.div.toInt)
    let min := s.arch.cc.minVoltage.toInt
    let high := Int.tdiv ((cal.toInt - min) * 1000) s.arch.out.duty.toNat + min
    let index := (clamp 0 13 (Int.tdiv ((s.env.inputs.effMaxMa.toNat : Int) - 6000) 2000)).toNat
    let r :=
      if s.arch.out.duty = 1000 then
        cpResistance Config.params.diodeDropMv s.arch.cc.maxVoltage.toInt 2700 e.ref2700.toInt high
      else
        cpResistance Config.params.diodeDropMv s.arch.cc.maxVoltage.toInt 880
          (e.ref880.getD index 0).toInt high
    let volts : Cp := { s.arch.cp with voltage := v, calVoltage := cal }
    (s.arch.out.duty = 0 →
      exec (.updateCp code) s = .next { s with arch := { s.arch with cp := volts } }) ∧
    (s.arch.out.duty ≠ 0 →
      exec (.updateCp code) s = exec (.ccUpdate code) { s with
        arch := { s.arch with
          cp := { volts with
            highVoltage := BitVec.ofInt 32 high
            resistance := BitVec.ofInt 32 (maUpdate s.arch.cp.resAvg 4 r).2
            resAvg := (maUpdate s.arch.cp.resAvg 4 r).1 } } } ∧
      ∃ t, exec (.updateCp code) s = .next t)

/-- UPDATE_PP publishes the PP voltage and the averaged PP resistance and writes nothing else
(41_signal_pipeline.md rules R119 to R121). -/
def Obligations.UpdatePpPublishes : Prop :=
  ∀ (code : I16) (s : State),
    let v := Int.tdiv code.toInt 8
    let r : Int := if 4850 ≤ v then 65535 else if v ≤ 0 then 0 else Int.tdiv (1000 * v) (5000 - v)
    exec (.updatePp code) s = .next { s with
      arch := { s.arch with
        pp := { s.arch.pp with
          voltage := BitVec.ofInt 16 v
          resistance := BitVec.ofInt 32 (maUpdate s.arch.pp.resAvg 4 r).2
          resAvg := (maUpdate s.arch.pp.resAvg 4 r).1 } } }

/-- CC_UPDATE is frozen unless all five conditions hold; enabled, it averages the code, pushes one
entry and recomputes both estimates from the rank code, and writes nothing else
(42_continuous_calibration.md rules R141 to R145). -/
def Obligations.CcUpdateRunsOnlyEnabled : Prop :=
  ∀ (code : I16) (s : State), divisorsNonzero s →
    let enabled := s.arch.sm.state = .a ∧ 500 ≤ (s.env.now - s.arch.sm.lastStateChange).toNat
      ∧ s.env.inputs.boxDisabled = false ∧ s.arch.cal.step = 0 ∧ s.arch.out.duty = 1000
    let e := Sys2Proof.Spec.effective s.arch
    let n := Config.params.calQueueLen
    let avg := maUpdate s.arch.cc.avg Config.params.calAvgLen code.toInt
    let queue : List I16 :=
      if s.arch.cc.qinit = true then s.arch.cc.queue.set s.arch.cc.qpos (BitVec.ofInt 16 avg.2)
      else List.replicate n (BitVec.ofInt 16 avg.2)
    let max : I16 := BitVec.ofInt 16
      (Int.tdiv ((cpVoltage (rankCode n queue).toInt).toInt * e.mul.toInt) e.div.toInt)
    (¬ enabled → exec (.ccUpdate code) s = .next s) ∧
    (enabled → exec (.ccUpdate code) s = .next { s with
      arch := { s.arch with
        cc :=
          { avg := avg.1
            queue := queue
            qpos := if s.arch.cc.qinit = true then (s.arch.cc.qpos + 1) % n else 0
            qinit := true
            maxVoltage := max
            minVoltage := BitVec.ofInt 16 (-max.toInt + e.diff.toInt) } } })

/-- The moving average is updated as the rule writes it, and it is the truncated mean of the last `L`
inputs, the first input after a reset counting as filling the whole window (41_signal_pipeline.md rule
R110). -/
def Obligations.MovingAverageOfLastInputs : Prop :=
  (∀ (len : Nat) (m : MovAvg) (x : Int), m.init = true →
    let sum := m.sum - m.slot.getD m.pos 0 + x
    maUpdate m len x
      = (⟨true, m.slot.set m.pos x, (m.pos + 1) % len, sum⟩, Int.tdiv sum len)) ∧
  ∀ (len : Nat) (m : MovAvg) (x y : Int) (xs : List Int), 0 < len → m.init = false →
    maUpdate m len x = (⟨true, List.replicate len x, 0, len * x⟩, x) ∧
    (maUpdate ((x :: xs).foldl (Sys2Proof.Spec.feed len) m) len y).2
      = Int.tdiv (((List.replicate len x ++ xs ++ [y]).reverse.take len).sum) len

/-- The rank code is the element at index `2N/3` of the queue sorted in ascending order, an index
within the queue (42_continuous_calibration.md rule R144). -/
def Obligations.RankCodeIsTwoThirdsRank : Prop :=
  ∀ q : List I16, q ≠ [] →
    2 * q.length / 3 < q.length ∧
    ∃ sorted : List I16, sorted.Perm q ∧ sorted.Pairwise (fun x y => x.toInt ≤ y.toInt) ∧
      sorted[2 * q.length / 3]? = some (rankCode q.length q)

/-- The CP voltage map: the formula for every code, exact at the two design points, in `[-49664, 13076]`
before the wrap, and wrapped only below code -15120 (41_signal_pipeline.md rule R114). -/
def Obligations.CpVoltageMap : Prop :=
  (∀ code : Int, -32768 ≤ code → code ≤ 32767 →
    let exact := Int.tdiv ((code - 6574) * 24000) 25069 - 12000
    cpVoltage code = BitVec.ofInt 16 exact ∧ -49664 ≤ exact ∧ exact ≤ 13076
    ∧ ((cpVoltage code).toInt = exact ↔ -15120 ≤ code)) ∧
  (cpVoltage 6574).toInt = -12000 ∧ (cpVoltage 31643).toInt = 12000
  ∧ (cpVoltage (-15120)).toInt = -32768

/-- The CP resistance: open within 1000 mV of the calibration max and for an unusable reference, 0 at or
below the diode drop, else the divider formula, always in `[0, 0xFFFF]`; at the reference voltage it
is exactly the reference resistance (41_signal_pipeline.md rule R118; 10_state.md rule R28). -/
def Obligations.CpResistanceSolvesTheDivider : Prop :=
  ∀ d vmax rref vref high : Int, 0 ≤ rref →
    (vmax - 1000 ≤ high → cpResistance d vmax rref vref high = 0xFFFF) ∧
    (vref ≤ d ∨ vmax ≤ vref → cpResistance d vmax rref vref high = 0xFFFF) ∧
    (high < vmax - 1000 → d < vref → vref < vmax → high ≤ d →
      cpResistance d vmax rref vref high = 0) ∧
    (high < vmax - 1000 → d < vref → vref < vmax → d < high →
      cpResistance d vmax rref vref high
        = min 0xFFFF (Int.tdiv (rref * (high - d) * (vmax - vref)) ((vref - d) * (vmax - high)))) ∧
    (0 ≤ cpResistance d vmax rref vref high ∧ cpResistance d vmax rref vref high ≤ 0xFFFF) ∧
    (rref ≤ 0xFFFF → d < vref → vref < vmax - 1000 → cpResistance d vmax rref vref vref = rref)

/-- The PP resistance: open from 4850 mV, 0 at or below 0, else `1000·v/(5000−v)` truncated, whose
largest value is 32112 (41_signal_pipeline.md rule R121). -/
def Obligations.PpResistanceFormula : Prop :=
  (∀ v : Int, ppResistance v =
    if 4850 ≤ v then 0xFFFF else if v ≤ 0 then 0 else Int.tdiv (1000 * v) (5000 - v)) ∧
  (∀ v : Int, v < 4850 → 0 ≤ ppResistance v ∧ ppResistance v ≤ 32112) ∧
  ppResistance 4849 = 32112

/-! ### The state machine and the Output Guard -/

/-- A tick is deferred, with nothing written and nothing emitted, while a session runs, whatever the
fault inputs, and without a fault while the CP countdown is nonzero (44_iec61851_state_machine.md
rules R181 and R183, 60_exceptions.md rule R246). -/
def Obligations.TickDefers : Prop :=
  ∀ s : State,
    (s.arch.cal.step ≠ 0 ∨
      (s.env.inputs.ccError = false ∧ s.env.inputs.jumperUnconfigured = false
        ∧ s.arch.cp.invalid ≠ 0)) →
    exec .tick s = .next s

/-- A tick that finds a contactor or configuration fault emits the one event of the higher priority,
sets state EF and calls SET_OUTPUT with full duty and the relay off, whatever the countdown
(44_iec61851_state_machine.md rules R180, R182; 60_exceptions.md rules R237, R238, R246). -/
def Obligations.TickForcesEfOnAFault : Prop :=
  ∀ s : State, s.arch.cal.step = 0 →
    (s.env.inputs.ccError = true ∨ s.env.inputs.jumperUnconfigured = true) →
    ∃ u v,
      exec (.setState .ef s.env.now) { s with
        trace := s.trace ++
          [.error (if s.env.inputs.ccError = true then .contactorFault else .configFault)] }
        = .next u ∧
      exec (.setOutput 1000 false) u = .next v ∧
      exec .tick s = .next v ∧
      v.arch.sm.state = .ef ∧ v.arch.out.duty = 1000 ∧ v.arch.out.contactor = false ∧
      v.arch.sm.lastErrorTime = s.arch.sm.lastErrorTime

/-- A tick outside ID.3 mode, or with the resistance at most 10000 ohm, clears the ID.3 hold, runs
SET_STATE with the state of the resistance band, and actuates the state that results
(44_iec61851_state_machine.md rules R180, R184, R187, R191, R192). -/
def Obligations.TickClassifiesAndActuates : Prop :=
  ∀ s : State, s.arch.cal.step = 0 → s.env.inputs.ccError = false →
    s.env.inputs.jumperUnconfigured = false → s.arch.cp.invalid = 0 →
    (s.arch.out.duty = 1000 ∨ s.arch.out.contactor = true ∨ s.arch.cp.resistance.toNat ≤ 10000) →
    let r := s.arch.cp.resistance.toNat
    let ma := s.env.inputs.effMaxMa.toNat
    let target : ChargeState :=
      if 10000 < r then .a
      else if 1790 < r then .b
      else if 560 < r then (if 0 < ma then .c else .b)
      else if 150 < r then .d
      else .ef
    ∃ u v,
      exec (.setState target s.env.now) { s with
        arch := { s.arch with sm := { s.arch.sm with id3GuardTime := none } } } = .next u ∧
      exec .tick s = .next v ∧
      Sys2Proof.Spec.actuated ma u v

/-- A tick in ID.3 mode above 10000 ohm completes: it writes the hold stamp, runs SET_STATE with the
target, and actuates the state that results. Above 30000 ohm it starts or keeps the hold, and the target
is A only when the hold has lasted 2500 ms, else the present state; at or below 30000 ohm it drops the
hold and the target is B. The state after it is the target (44_iec61851_state_machine.md rules R185 to
R187, R191, R192). -/
def Obligations.TickId3HoldsBeforeA : Prop :=
  ∀ s : State, s.arch.cal.step = 0 → s.env.inputs.ccError = false →
    s.env.inputs.jumperUnconfigured = false → s.arch.cp.invalid = 0 →
    s.arch.out.duty ≠ 1000 → s.arch.out.contactor = false → 10000 < s.arch.cp.resistance.toNat →
    let above := 30000 < s.arch.cp.resistance.toNat
    let hold : Option U32 :=
      if above then some (s.arch.sm.id3GuardTime.getD s.env.now) else none
    let held := ∃ g, s.arch.sm.id3GuardTime = some g ∧ 2500 ≤ (s.env.now - g).toNat
    ∃ (target : ChargeState) (u v : State),
      (¬ above → target = .b) ∧ (above → held → target = .a) ∧
      (above → ¬ held → target = s.arch.sm.state) ∧
      exec (.setState target s.env.now) { s with
        arch := { s.arch with sm := { s.arch.sm with id3GuardTime := hold } } } = .next u ∧
      exec .tick s = .next v ∧
      Sys2Proof.Spec.actuated s.env.inputs.effMaxMa.toNat u v ∧
      v.arch.sm.state = target ∧ v.arch.sm.id3GuardTime = hold

/-- One tick end to end, outside ID.3 mode: the state after it is the band's, but B where the hold-off
refuses C; the duty is the state's; the relay is on only in C with the lock closed, or still on in C
with the lock no longer closed (44_iec61851_state_machine.md rules R189, R192, R197;
45_output_guard.md rules R207, R208). -/
def Obligations.TickReachesTheBandOutputs : Prop :=
  ∀ s : State, s.arch.cal.step = 0 → s.env.inputs.ccError = false →
    s.env.inputs.jumperUnconfigured = false → s.arch.cp.invalid = 0 →
    (s.arch.out.duty = 1000 ∨ s.arch.out.contactor = true) →
    let r := s.arch.cp.resistance.toNat
    let ma := s.env.inputs.effMaxMa.toNat
    let refused := s.arch.sm.state ≠ .c ∧ (s.arch.sm.state = .ef ∨
      ∃ e, s.arch.sm.lastErrorTime = some e ∧ (s.env.now - e).toNat < 30000)
    ∃ t, exec .tick s = .next t ∧
      (10000 < r → t.arch.sm.state = .a ∧ t.arch.sm.buttonPressed = false) ∧
      (1790 < r → r ≤ 10000 → t.arch.sm.state = .b) ∧
      (560 < r → r ≤ 1790 → (ma = 0 ∨ refused) → t.arch.sm.state = .b) ∧
      (560 < r → r ≤ 1790 → 0 < ma → ¬ refused → t.arch.sm.state = .c) ∧
      (150 < r → r ≤ 560 → t.arch.sm.state = .d) ∧
      (r ≤ 150 → t.arch.sm.state = .ef) ∧
      t.arch.out.duty.toNat =
        (if t.arch.sm.state = .b ∨ t.arch.sm.state = .c then dutyForCurrent ma else 1000) ∧
      (t.arch.out.contactor = true ↔ t.arch.sm.state = .c ∧
        (s.env.inputs.lockState = .closed ∨ s.arch.out.contactor = true))

/-- SET_STATE in closed form: nothing for the present state; leaving EF stamps the error time; C within
the 30000 ms hold-off becomes B; a refused C in state B writes nothing more; an entry writes the state
and the time, clears or starts the charging timer and emits its notifications
(44_iec61851_state_machine.md rules R188 to R190). -/
def Obligations.SetStateClosedForm : Prop :=
  ∀ (new : ChargeState) (time : U32) (s : State),
    let sm := s.arch.sm
    let errorTime := if sm.state = .ef then some time else sm.lastErrorTime
    let held := ∃ e, errorTime = some e ∧ (time - e).toNat < 30000
    let enter (st : ChargeState) (start : Option U32) (ev : List Event) : State :=
      { s with
        arch := { s.arch with
          sm := { sm with
            state := st, lastStateChange := time, lastErrorTime := errorTime
            chargingStart := start } }
        trace := s.trace ++ ev }
    (new = sm.state → exec (.setState new time) s = .next s) ∧
    (new ≠ sm.state → new = .a →
      exec (.setState new time) s = .next (enter .a none [.arbDisconnect, .indicatorReset])) ∧
    (new ≠ sm.state → new = .b →
      exec (.setState new time) s = .next (enter .b sm.chargingStart [.indicatorReset])) ∧
    (new ≠ sm.state → new = .c → ¬ held →
      exec (.setState new time) s = .next (enter .c (sm.chargingStart.or (some time)) [])) ∧
    (new ≠ sm.state → new = .c → held → sm.state ≠ .b →
      exec (.setState new time) s = .next (enter .b sm.chargingStart [.indicatorReset])) ∧
    (new = .c → held → sm.state = .b → exec (.setState new time) s = .next s) ∧
    (new ≠ sm.state → new = .d ∨ new = .ef →
      exec (.setState new time) s = .next (enter new sm.chargingStart []))

/-- SET_OUTPUT in closed form: the duty part, then either the lock deferral or the relay part and the
unlock part, with the countdowns they raise and their events in order; nothing else is written
(45_output_guard.md rules R205 to R209; 41_signal_pipeline.md rule R112). -/
def Obligations.SetOutputClosedForm : Prop :=
  ∀ (duty : U16) (req : Bool) (s : State),
    let out := s.arch.out
    let lock := s.env.inputs.lockState
    let newDuty := decide (duty ≠ out.duty)
    let deferred := req && decide (lock ≠ .closed)
    let switched := !deferred && decide (out.contactor ≠ req)
    let unlocks := !req && decide (lock ≠ .opened)
    let raised (inv : U8) (n : Nat) : U8 := BitVec.ofNat 8 (max inv.toNat n)
    exec (.setOutput duty req) s = .next { s with
      arch := { s.arch with
        out :=
          { duty := duty
            contactor := if deferred then out.contactor else req
            lockRequested :=
              if deferred then true else if unlocks then false else out.lockRequested }
        cp := { s.arch.cp with
          invalid := raised s.arch.cp.invalid (if switched then 4 else if newDuty then 2 else 0) }
        pp := { s.arch.pp with
          invalid := raised s.arch.pp.invalid (if switched then 4 else 0) } }
      trace := s.trace
        ++ (if newDuty then [.pwmSet duty] else [])
        ++ (if deferred then [.lockRequest true] else [])
        ++ (if switched then [.ccInvalidate 5, .relaySet req] else [])
        ++ (if unlocks then [.lockRequest false] else []) }

/-- The PWM encoding of the current limit: the formula, the values of the rule, and the clamp to
`[80, 1000]`, which the 16-bit duty operand holds (44_iec61851_state_machine.md rule R193). -/
def Obligations.DutyForCurrentFormula : Prop :=
  (∀ ma : Nat,
    (ma = 0 → dutyForCurrent ma = 1000) ∧
    (0 < ma → ma ≤ 51000 → dutyForCurrent ma = min 1000 (max 80 (ma / 60))) ∧
    (51000 < ma → dutyForCurrent ma = min 1000 (max 80 (ma / 250 + 640))) ∧
    80 ≤ dutyForCurrent ma ∧ dutyForCurrent ma ≤ 1000 ∧
    (dutyField ma).toNat = dutyForCurrent ma) ∧
  [0, 4000, 6000, 13000, 32000, 51000, 51001, 80000, 100000].map dutyForCurrent
    = [1000, 80, 100, 216, 533, 850, 844, 960, 1000]

/-! ### The resets -/

/-- RESET_POWER_ON sets every field the table of rule R45 gives a value, loads both calibration sets,
emits the three output events and gives the three windows and the queue their shape; the ADC chip is
powered down with the register at its reset value; it changes no page and answers nothing
(70_reset_and_hazards.md rules R260, R262 to R264; 10_state.md rules R22, R30, R45; 30_encoding.md rule
R60; that the chip powers on with the block is the model's choice, log 13, and so is that the
chip-select line stays, log 20, and that what is placed in the schedule stays, log 19). -/
def Obligations.PowerOnResetValues : Prop :=
  ∀ s : State, ∃ t, exec .resetPowerOn s = .next t ∧
    t.arch.adc.phase = .configure ∧ t.arch.adc.channel = .cp ∧ t.arch.adc.mode = .normal ∧
    (∃ m, t.arch.cp = ⟨0, 0, 0, 0, 0, 0, m⟩ ∧ m.init = false ∧ m.slot.length = 4 ∧ m.pos < 4) ∧
    (∃ m, t.arch.pp = ⟨0, 0, 0, 0, m⟩ ∧ m.init = false ∧ m.slot.length = 4 ∧ m.pos < 4) ∧
    t.arch.cc.avg.init = false ∧ t.arch.cc.avg.slot.length = Config.params.calAvgLen ∧
    t.arch.cc.avg.pos < Config.params.calAvgLen ∧ t.chip = ⟨0x058B, .poweredDown⟩ ∧
    t.arch.cc.qinit = false ∧ t.arch.cc.maxVoltage = 0 ∧
    t.arch.cc.minVoltage = 0 ∧ t.arch.cc.queue.length = Config.params.calQueueLen ∧
    t.arch.cc.qpos < Config.params.calQueueLen ∧
    t.arch.factory = Sys2Proof.Spec.factoryLoaded s ∧ t.arch.user = Sys2Proof.Spec.userLoaded s ∧
    t.arch.cal = ⟨0⟩ ∧ t.arch.sm = ⟨.ef, s.env.now, none, none, none, false⟩ ∧
    t.arch.out = ⟨1000, false, false⟩ ∧
    t.trace = s.trace ++ [.pwmSet 1000, .relaySet false, .lockRequest false] ∧
    t.responses = s.responses ∧ t.pages = s.pages ∧ t.env = s.env ∧ t.queue = s.queue ∧
    t.chipSelect = s.chipSelect

/-- RESET_SUPERVISING sets the same fields but keeps both calibration sets, and emits the three output
events; it changes no page and answers nothing (70_reset_and_hazards.md rules R261, R263, R264;
10_state.md rules R33 and R45; that what is placed in the schedule stays is the model's choice, log
19). -/
def Obligations.SupervisingResetKeepsCalibration : Prop :=
  ∀ s : State, ∃ t, exec .resetSupervising s = .next t ∧
    t.arch.factory = s.arch.factory ∧ t.arch.user = s.arch.user ∧
    t.arch.adc.phase = .configure ∧ t.arch.adc.channel = .cp ∧ t.arch.adc.mode = .normal ∧
    (∃ m, t.arch.cp = ⟨0, 0, 0, 0, 0, 0, m⟩ ∧ m.init = false) ∧
    (∃ m, t.arch.pp = ⟨0, 0, 0, 0, m⟩ ∧ m.init = false) ∧
    t.arch.cc.avg.init = false ∧ t.arch.cc.qinit = false ∧ t.arch.cc.maxVoltage = 0 ∧
    t.arch.cc.minVoltage = 0 ∧
    t.arch.cal = ⟨0⟩ ∧ t.arch.sm = ⟨.ef, s.env.now, none, none, none, false⟩ ∧
    t.arch.out = ⟨1000, false, false⟩ ∧
    t.trace = s.trace ++ [.pwmSet 1000, .relaySet false, .lockRequest false] ∧
    t.responses = s.responses ∧ t.pages = s.pages ∧ t.env = s.env ∧ t.queue = s.queue

/-! ### Words on the ADC's SPI -/

/-- The words of the three configuration patterns reach the chip: it takes the word, single-shot words
with `SS = 1` start one conversion and a continuous word converts continuously, and the write is in
the trace; a word whose `NOP` field is not `0b01` changes nothing in the chip, whatever its bit 0. A
sample word is read as the signed code of its 16 bits, and a single-shot chip is powered down by that
read (30_encoding.md rules R60, R62 to R64, R72; 40_adc_transport.md rule R102; that these rows are one
SPI exchange is the model's choice, logs 16 and 17, that the read powers the chip down is its reading,
log 14, and that `NOP` wins over bit 0 is its choice, log 36). -/
def Obligations.AdcWordsReachTheChip : Prop :=
  (∀ (mux pga : BitVec 3) (s : State),
    let normal : U16 := 1#1 ++ mux ++ pga ++ 1#1 ++ 0b000#3 ++ 0#1 ++ 1#1 ++ 0b01#2 ++ 1#1
    let fast : U16 := 0#1 ++ mux ++ pga ++ 0#1 ++ 0b010#3 ++ 0#1 ++ 1#1 ++ 0b01#2 ++ 1#1
    let temp : U16 := 1#1 ++ 0b000#3 ++ pga ++ 1#1 ++ 0b000#3 ++ 1#1 ++ 1#1 ++ 0b01#2 ++ 1#1
    exec (.ads1118CfgNormal mux pga) s
      = .next { s with chip := ⟨normal, .single⟩, trace := s.trace ++ [.spiWrite normal] } ∧
    exec (.ads1118CfgFast mux pga) s
      = .next { s with chip := ⟨fast, .continuous⟩, trace := s.trace ++ [.spiWrite fast] } ∧
    exec (.ads1118CfgTemp pga) s
      = .next { s with chip := ⟨temp, .single⟩, trace := s.trace ++ [.spiWrite temp] }) ∧
  (∀ (w : U16) (s : State), w.extractLsb' 1 2 ≠ 0b01#2 → chipReceives w s = s) ∧
  ∀ (w : U16) (s : State),
    exec (.ads1118Sample w) s = .next { s with
      chip := { s.chip with
        activity := if s.chip.activity = .single then .poweredDown else s.chip.activity }
      trace := s.trace ++ [.spiRead w]
      responses := s.responses ++ [.sampleCode w] }
end

