-- ==== Sys2Proof/Laws/State.lean ====
section
/-!
SUPPORT. What each state update leaves in each field: one lemma per field per update, true by `rfl`.
-/

namespace Sys2Proof.Machine

/-! ### `withArch` -/

@[simp] theorem withArch_arch (s : State) (a : Arch) : (s.withArch a).arch = a := rfl
@[simp] theorem withArch_chip (s : State) (a : Arch) : (s.withArch a).chip = s.chip := rfl
@[simp] theorem withArch_chipSelect (s : State) (a : Arch) :
    (s.withArch a).chipSelect = s.chipSelect := rfl
@[simp] theorem withArch_pages (s : State) (a : Arch) : (s.withArch a).pages = s.pages := rfl
@[simp] theorem withArch_env (s : State) (a : Arch) : (s.withArch a).env = s.env := rfl
@[simp] theorem withArch_trace (s : State) (a : Arch) : (s.withArch a).trace = s.trace := rfl
@[simp] theorem withArch_responses (s : State) (a : Arch) :
    (s.withArch a).responses = s.responses := rfl
@[simp] theorem withArch_queue (s : State) (a : Arch) : (s.withArch a).queue = s.queue := rfl
@[simp] theorem withArch_draws (s : State) (a : Arch) : (s.withArch a).draws = s.draws := rfl

/-! ### `withAdc` -/

@[simp] theorem withAdc_arch_adc (s : State) (x : Adc) : (s.withAdc x).arch.adc = x := rfl
@[simp] theorem withAdc_arch_cp (s : State) (x : Adc) : (s.withAdc x).arch.cp = s.arch.cp := rfl
@[simp] theorem withAdc_arch_pp (s : State) (x : Adc) : (s.withAdc x).arch.pp = s.arch.pp := rfl
@[simp] theorem withAdc_arch_cc (s : State) (x : Adc) : (s.withAdc x).arch.cc = s.arch.cc := rfl
@[simp] theorem withAdc_arch_factory (s : State) (x : Adc) :
    (s.withAdc x).arch.factory = s.arch.factory := rfl
@[simp] theorem withAdc_arch_user (s : State) (x : Adc) :
    (s.withAdc x).arch.user = s.arch.user := rfl
@[simp] theorem withAdc_arch_cal (s : State) (x : Adc) :
    (s.withAdc x).arch.cal = s.arch.cal := rfl
@[simp] theorem withAdc_arch_sm (s : State) (x : Adc) : (s.withAdc x).arch.sm = s.arch.sm := rfl
@[simp] theorem withAdc_arch_out (s : State) (x : Adc) :
    (s.withAdc x).arch.out = s.arch.out := rfl
@[simp] theorem withAdc_chip (s : State) (x : Adc) : (s.withAdc x).chip = s.chip := rfl
@[simp] theorem withAdc_chipSelect (s : State) (x : Adc) :
    (s.withAdc x).chipSelect = s.chipSelect := rfl
@[simp] theorem withAdc_pages (s : State) (x : Adc) : (s.withAdc x).pages = s.pages := rfl
@[simp] theorem withAdc_env (s : State) (x : Adc) : (s.withAdc x).env = s.env := rfl
@[simp] theorem withAdc_trace (s : State) (x : Adc) : (s.withAdc x).trace = s.trace := rfl
@[simp] theorem withAdc_responses (s : State) (x : Adc) :
    (s.withAdc x).responses = s.responses := rfl
@[simp] theorem withAdc_queue (s : State) (x : Adc) : (s.withAdc x).queue = s.queue := rfl
@[simp] theorem withAdc_draws (s : State) (x : Adc) : (s.withAdc x).draws = s.draws := rfl

/-! ### `withFactory` -/

@[simp] theorem withFactory_arch_adc (s : State) (p : CalParams) :
    (s.withFactory p).arch.adc = s.arch.adc := rfl
@[simp] theorem withFactory_arch_cp (s : State) (p : CalParams) :
    (s.withFactory p).arch.cp = s.arch.cp := rfl
@[simp] theorem withFactory_arch_pp (s : State) (p : CalParams) :
    (s.withFactory p).arch.pp = s.arch.pp := rfl
@[simp] theorem withFactory_arch_cc (s : State) (p : CalParams) :
    (s.withFactory p).arch.cc = s.arch.cc := rfl
@[simp] theorem withFactory_arch_factory (s : State) (p : CalParams) :
    (s.withFactory p).arch.factory = p := rfl
@[simp] theorem withFactory_arch_user (s : State) (p : CalParams) :
    (s.withFactory p).arch.user = s.arch.user := rfl
@[simp] theorem withFactory_arch_cal (s : State) (p : CalParams) :
    (s.withFactory p).arch.cal = s.arch.cal := rfl
@[simp] theorem withFactory_arch_sm (s : State) (p : CalParams) :
    (s.withFactory p).arch.sm = s.arch.sm := rfl
@[simp] theorem withFactory_arch_out (s : State) (p : CalParams) :
    (s.withFactory p).arch.out = s.arch.out := rfl
@[simp] theorem withFactory_chip (s : State) (p : CalParams) :
    (s.withFactory p).chip = s.chip := rfl
@[simp] theorem withFactory_chipSelect (s : State) (p : CalParams) :
    (s.withFactory p).chipSelect = s.chipSelect := rfl
@[simp] theorem withFactory_pages (s : State) (p : CalParams) :
    (s.withFactory p).pages = s.pages := rfl
@[simp] theorem withFactory_env (s : State) (p : CalParams) : (s.withFactory p).env = s.env := rfl
@[simp] theorem withFactory_trace (s : State) (p : CalParams) :
    (s.withFactory p).trace = s.trace := rfl
@[simp] theorem withFactory_responses (s : State) (p : CalParams) :
    (s.withFactory p).responses = s.responses := rfl
@[simp] theorem withFactory_queue (s : State) (p : CalParams) :
    (s.withFactory p).queue = s.queue := rfl
@[simp] theorem withFactory_draws (s : State) (p : CalParams) :
    (s.withFactory p).draws = s.draws := rfl

/-! ### `withUser` -/

@[simp] theorem withUser_arch_adc (s : State) (u : UserSet) :
    (s.withUser u).arch.adc = s.arch.adc := rfl
@[simp] theorem withUser_arch_cp (s : State) (u : UserSet) :
    (s.withUser u).arch.cp = s.arch.cp := rfl
@[simp] theorem withUser_arch_pp (s : State) (u : UserSet) :
    (s.withUser u).arch.pp = s.arch.pp := rfl
@[simp] theorem withUser_arch_cc (s : State) (u : UserSet) :
    (s.withUser u).arch.cc = s.arch.cc := rfl
@[simp] theorem withUser_arch_factory (s : State) (u : UserSet) :
    (s.withUser u).arch.factory = s.arch.factory := rfl
@[simp] theorem withUser_arch_user (s : State) (u : UserSet) : (s.withUser u).arch.user = u := rfl
@[simp] theorem withUser_arch_cal (s : State) (u : UserSet) :
    (s.withUser u).arch.cal = s.arch.cal := rfl
@[simp] theorem withUser_arch_sm (s : State) (u : UserSet) :
    (s.withUser u).arch.sm = s.arch.sm := rfl
@[simp] theorem withUser_arch_out (s : State) (u : UserSet) :
    (s.withUser u).arch.out = s.arch.out := rfl
@[simp] theorem withUser_chip (s : State) (u : UserSet) : (s.withUser u).chip = s.chip := rfl
@[simp] theorem withUser_chipSelect (s : State) (u : UserSet) :
    (s.withUser u).chipSelect = s.chipSelect := rfl
@[simp] theorem withUser_pages (s : State) (u : UserSet) : (s.withUser u).pages = s.pages := rfl
@[simp] theorem withUser_env (s : State) (u : UserSet) : (s.withUser u).env = s.env := rfl
@[simp] theorem withUser_trace (s : State) (u : UserSet) : (s.withUser u).trace = s.trace := rfl
@[simp] theorem withUser_responses (s : State) (u : UserSet) :
    (s.withUser u).responses = s.responses := rfl
@[simp] theorem withUser_queue (s : State) (u : UserSet) : (s.withUser u).queue = s.queue := rfl
@[simp] theorem withUser_draws (s : State) (u : UserSet) : (s.withUser u).draws = s.draws := rfl

/-! ### `withCalStep` -/

@[simp] theorem withCalStep_arch_adc (s : State) (n : U8) :
    (s.withCalStep n).arch.adc = s.arch.adc := rfl
@[simp] theorem withCalStep_arch_cp (s : State) (n : U8) :
    (s.withCalStep n).arch.cp = s.arch.cp := rfl
@[simp] theorem withCalStep_arch_pp (s : State) (n : U8) :
    (s.withCalStep n).arch.pp = s.arch.pp := rfl
@[simp] theorem withCalStep_arch_cc (s : State) (n : U8) :
    (s.withCalStep n).arch.cc = s.arch.cc := rfl
@[simp] theorem withCalStep_arch_factory (s : State) (n : U8) :
    (s.withCalStep n).arch.factory = s.arch.factory := rfl
@[simp] theorem withCalStep_arch_user (s : State) (n : U8) :
    (s.withCalStep n).arch.user = s.arch.user := rfl
@[simp] theorem withCalStep_arch_cal (s : State) (n : U8) :
    (s.withCalStep n).arch.cal = { step := n } := rfl
@[simp] theorem withCalStep_arch_sm (s : State) (n : U8) :
    (s.withCalStep n).arch.sm = s.arch.sm := rfl
@[simp] theorem withCalStep_arch_out (s : State) (n : U8) :
    (s.withCalStep n).arch.out = s.arch.out := rfl
@[simp] theorem withCalStep_chip (s : State) (n : U8) : (s.withCalStep n).chip = s.chip := rfl
@[simp] theorem withCalStep_chipSelect (s : State) (n : U8) :
    (s.withCalStep n).chipSelect = s.chipSelect := rfl
@[simp] theorem withCalStep_pages (s : State) (n : U8) : (s.withCalStep n).pages = s.pages := rfl
@[simp] theorem withCalStep_env (s : State) (n : U8) : (s.withCalStep n).env = s.env := rfl
@[simp] theorem withCalStep_trace (s : State) (n : U8) : (s.withCalStep n).trace = s.trace := rfl
@[simp] theorem withCalStep_responses (s : State) (n : U8) :
    (s.withCalStep n).responses = s.responses := rfl
@[simp] theorem withCalStep_queue (s : State) (n : U8) : (s.withCalStep n).queue = s.queue := rfl
@[simp] theorem withCalStep_draws (s : State) (n : U8) : (s.withCalStep n).draws = s.draws := rfl

/-! ### `withSm` -/

@[simp] theorem withSm_arch_adc (s : State) (x : Sm) : (s.withSm x).arch.adc = s.arch.adc := rfl
@[simp] theorem withSm_arch_cp (s : State) (x : Sm) : (s.withSm x).arch.cp = s.arch.cp := rfl
@[simp] theorem withSm_arch_pp (s : State) (x : Sm) : (s.withSm x).arch.pp = s.arch.pp := rfl
@[simp] theorem withSm_arch_cc (s : State) (x : Sm) : (s.withSm x).arch.cc = s.arch.cc := rfl
@[simp] theorem withSm_arch_factory (s : State) (x : Sm) :
    (s.withSm x).arch.factory = s.arch.factory := rfl
@[simp] theorem withSm_arch_user (s : State) (x : Sm) :
    (s.withSm x).arch.user = s.arch.user := rfl
@[simp] theorem withSm_arch_cal (s : State) (x : Sm) : (s.withSm x).arch.cal = s.arch.cal := rfl
@[simp] theorem withSm_arch_sm (s : State) (x : Sm) : (s.withSm x).arch.sm = x := rfl
@[simp] theorem withSm_arch_out (s : State) (x : Sm) : (s.withSm x).arch.out = s.arch.out := rfl
@[simp] theorem withSm_chip (s : State) (x : Sm) : (s.withSm x).chip = s.chip := rfl
@[simp] theorem withSm_chipSelect (s : State) (x : Sm) :
    (s.withSm x).chipSelect = s.chipSelect := rfl
@[simp] theorem withSm_pages (s : State) (x : Sm) : (s.withSm x).pages = s.pages := rfl
@[simp] theorem withSm_env (s : State) (x : Sm) : (s.withSm x).env = s.env := rfl
@[simp] theorem withSm_trace (s : State) (x : Sm) : (s.withSm x).trace = s.trace := rfl
@[simp] theorem withSm_responses (s : State) (x : Sm) :
    (s.withSm x).responses = s.responses := rfl
@[simp] theorem withSm_queue (s : State) (x : Sm) : (s.withSm x).queue = s.queue := rfl
@[simp] theorem withSm_draws (s : State) (x : Sm) : (s.withSm x).draws = s.draws := rfl

/-! ### `withOut` -/

@[simp] theorem withOut_arch_adc (s : State) (x : Out) :
    (s.withOut x).arch.adc = s.arch.adc := rfl
@[simp] theorem withOut_arch_cp (s : State) (x : Out) : (s.withOut x).arch.cp = s.arch.cp := rfl
@[simp] theorem withOut_arch_pp (s : State) (x : Out) : (s.withOut x).arch.pp = s.arch.pp := rfl
@[simp] theorem withOut_arch_cc (s : State) (x : Out) : (s.withOut x).arch.cc = s.arch.cc := rfl
@[simp] theorem withOut_arch_factory (s : State) (x : Out) :
    (s.withOut x).arch.factory = s.arch.factory := rfl
@[simp] theorem withOut_arch_user (s : State) (x : Out) :
    (s.withOut x).arch.user = s.arch.user := rfl
@[simp] theorem withOut_arch_cal (s : State) (x : Out) :
    (s.withOut x).arch.cal = s.arch.cal := rfl
@[simp] theorem withOut_arch_sm (s : State) (x : Out) : (s.withOut x).arch.sm = s.arch.sm := rfl
@[simp] theorem withOut_arch_out (s : State) (x : Out) : (s.withOut x).arch.out = x := rfl
@[simp] theorem withOut_chip (s : State) (x : Out) : (s.withOut x).chip = s.chip := rfl
@[simp] theorem withOut_chipSelect (s : State) (x : Out) :
    (s.withOut x).chipSelect = s.chipSelect := rfl
@[simp] theorem withOut_pages (s : State) (x : Out) : (s.withOut x).pages = s.pages := rfl
@[simp] theorem withOut_env (s : State) (x : Out) : (s.withOut x).env = s.env := rfl
@[simp] theorem withOut_trace (s : State) (x : Out) : (s.withOut x).trace = s.trace := rfl
@[simp] theorem withOut_responses (s : State) (x : Out) :
    (s.withOut x).responses = s.responses := rfl
@[simp] theorem withOut_queue (s : State) (x : Out) : (s.withOut x).queue = s.queue := rfl
@[simp] theorem withOut_draws (s : State) (x : Out) : (s.withOut x).draws = s.draws := rfl

/-! ### `withChip` -/

@[simp] theorem withChip_arch (s : State) (c : Chip) : (s.withChip c).arch = s.arch := rfl
@[simp] theorem withChip_chip (s : State) (c : Chip) : (s.withChip c).chip = c := rfl
@[simp] theorem withChip_chipSelect (s : State) (c : Chip) :
    (s.withChip c).chipSelect = s.chipSelect := rfl
@[simp] theorem withChip_pages (s : State) (c : Chip) : (s.withChip c).pages = s.pages := rfl
@[simp] theorem withChip_env (s : State) (c : Chip) : (s.withChip c).env = s.env := rfl
@[simp] theorem withChip_trace (s : State) (c : Chip) : (s.withChip c).trace = s.trace := rfl
@[simp] theorem withChip_responses (s : State) (c : Chip) :
    (s.withChip c).responses = s.responses := rfl
@[simp] theorem withChip_queue (s : State) (c : Chip) : (s.withChip c).queue = s.queue := rfl
@[simp] theorem withChip_draws (s : State) (c : Chip) : (s.withChip c).draws = s.draws := rfl

/-! ### `drawn` -/

@[simp] theorem drawn_arch (s : State) : (s.drawn).arch = s.arch := rfl
@[simp] theorem drawn_chip (s : State) : (s.drawn).chip = s.chip := rfl
@[simp] theorem drawn_chipSelect (s : State) : (s.drawn).chipSelect = s.chipSelect := rfl
@[simp] theorem drawn_pages (s : State) : (s.drawn).pages = s.pages := rfl
@[simp] theorem drawn_env (s : State) : (s.drawn).env = s.env := rfl
@[simp] theorem drawn_trace (s : State) : (s.drawn).trace = s.trace := rfl
@[simp] theorem drawn_responses (s : State) : (s.drawn).responses = s.responses := rfl
@[simp] theorem drawn_queue (s : State) : (s.drawn).queue = s.queue := rfl
@[simp] theorem drawn_draws (s : State) : (s.drawn).draws = s.draws + 1 := rfl

/-! ### `emit` -/

@[simp] theorem emit_arch (s : State) (e : Event) : (s.emit e).arch = s.arch := rfl
@[simp] theorem emit_chip (s : State) (e : Event) : (s.emit e).chip = s.chip := rfl
@[simp] theorem emit_chipSelect (s : State) (e : Event) :
    (s.emit e).chipSelect = s.chipSelect := rfl
@[simp] theorem emit_pages (s : State) (e : Event) : (s.emit e).pages = s.pages := rfl
@[simp] theorem emit_env (s : State) (e : Event) : (s.emit e).env = s.env := rfl
@[simp] theorem emit_trace (s : State) (e : Event) : (s.emit e).trace = s.trace ++ [e] := rfl
@[simp] theorem emit_responses (s : State) (e : Event) : (s.emit e).responses = s.responses := rfl
@[simp] theorem emit_queue (s : State) (e : Event) : (s.emit e).queue = s.queue := rfl
@[simp] theorem emit_draws (s : State) (e : Event) : (s.emit e).draws = s.draws := rfl

/-! ### `raise` -/

@[simp] theorem raise_arch (s : State) (e : ErrorEvent) : (s.raise e).arch = s.arch := rfl
@[simp] theorem raise_chip (s : State) (e : ErrorEvent) : (s.raise e).chip = s.chip := rfl
@[simp] theorem raise_chipSelect (s : State) (e : ErrorEvent) :
    (s.raise e).chipSelect = s.chipSelect := rfl
@[simp] theorem raise_pages (s : State) (e : ErrorEvent) : (s.raise e).pages = s.pages := rfl
@[simp] theorem raise_env (s : State) (e : ErrorEvent) : (s.raise e).env = s.env := rfl
@[simp] theorem raise_trace (s : State) (e : ErrorEvent) :
    (s.raise e).trace = s.trace ++ [.error e] := rfl
@[simp] theorem raise_responses (s : State) (e : ErrorEvent) :
    (s.raise e).responses = s.responses := rfl
@[simp] theorem raise_queue (s : State) (e : ErrorEvent) : (s.raise e).queue = s.queue := rfl
@[simp] theorem raise_draws (s : State) (e : ErrorEvent) : (s.raise e).draws = s.draws := rfl

/-! ### `respond` -/

@[simp] theorem respond_arch (s : State) (r : Response) : (s.respond r).arch = s.arch := rfl
@[simp] theorem respond_chip (s : State) (r : Response) : (s.respond r).chip = s.chip := rfl
@[simp] theorem respond_chipSelect (s : State) (r : Response) :
    (s.respond r).chipSelect = s.chipSelect := rfl
@[simp] theorem respond_pages (s : State) (r : Response) : (s.respond r).pages = s.pages := rfl
@[simp] theorem respond_env (s : State) (r : Response) : (s.respond r).env = s.env := rfl
@[simp] theorem respond_trace (s : State) (r : Response) : (s.respond r).trace = s.trace := rfl
@[simp] theorem respond_responses (s : State) (r : Response) :
    (s.respond r).responses = s.responses ++ [r] := rfl
@[simp] theorem respond_queue (s : State) (r : Response) : (s.respond r).queue = s.queue := rfl
@[simp] theorem respond_draws (s : State) (r : Response) : (s.respond r).draws = s.draws := rfl

/-! ### `csAssert` -/

@[simp] theorem csAssert_arch (s : State) : (csAssert s).arch = s.arch := rfl
@[simp] theorem csAssert_chip (s : State) : (csAssert s).chip = s.chip := rfl
@[simp] theorem csAssert_chipSelect (s : State) : (csAssert s).chipSelect = true := rfl
@[simp] theorem csAssert_pages (s : State) : (csAssert s).pages = s.pages := rfl
@[simp] theorem csAssert_env (s : State) : (csAssert s).env = s.env := rfl
@[simp] theorem csAssert_trace (s : State) : (csAssert s).trace = s.trace ++ [.cs true] := rfl
@[simp] theorem csAssert_responses (s : State) : (csAssert s).responses = s.responses := rfl
@[simp] theorem csAssert_queue (s : State) : (csAssert s).queue = s.queue := rfl
@[simp] theorem csAssert_draws (s : State) : (csAssert s).draws = s.draws := rfl

/-! ### `csDeassert` -/

@[simp] theorem csDeassert_arch (s : State) : (csDeassert s).arch = s.arch := rfl
@[simp] theorem csDeassert_chip (s : State) : (csDeassert s).chip = s.chip := rfl
@[simp] theorem csDeassert_chipSelect (s : State) : (csDeassert s).chipSelect = false := rfl
@[simp] theorem csDeassert_pages (s : State) : (csDeassert s).pages = s.pages := rfl
@[simp] theorem csDeassert_env (s : State) : (csDeassert s).env = s.env := rfl
@[simp] theorem csDeassert_trace (s : State) :
    (csDeassert s).trace = s.trace ++ [.cs false] := rfl
@[simp] theorem csDeassert_responses (s : State) : (csDeassert s).responses = s.responses := rfl
@[simp] theorem csDeassert_queue (s : State) : (csDeassert s).queue = s.queue := rfl
@[simp] theorem csDeassert_draws (s : State) : (csDeassert s).draws = s.draws := rfl

/-! ### `invalidateCp` -/

@[simp] theorem invalidateCp_arch_adc (n : U8) (s : State) :
    (invalidateCp n s).arch.adc = s.arch.adc := rfl
@[simp] theorem invalidateCp_arch_cp (n : U8) (s : State) :
    (invalidateCp n s).arch.cp = { s.arch.cp with invalid := maxU8 s.arch.cp.invalid n } := rfl
@[simp] theorem invalidateCp_arch_pp (n : U8) (s : State) :
    (invalidateCp n s).arch.pp = s.arch.pp := rfl
@[simp] theorem invalidateCp_arch_cc (n : U8) (s : State) :
    (invalidateCp n s).arch.cc = s.arch.cc := rfl
@[simp] theorem invalidateCp_arch_factory (n : U8) (s : State) :
    (invalidateCp n s).arch.factory = s.arch.factory := rfl
@[simp] theorem invalidateCp_arch_user (n : U8) (s : State) :
    (invalidateCp n s).arch.user = s.arch.user := rfl
@[simp] theorem invalidateCp_arch_cal (n : U8) (s : State) :
    (invalidateCp n s).arch.cal = s.arch.cal := rfl
@[simp] theorem invalidateCp_arch_sm (n : U8) (s : State) :
    (invalidateCp n s).arch.sm = s.arch.sm := rfl
@[simp] theorem invalidateCp_arch_out (n : U8) (s : State) :
    (invalidateCp n s).arch.out = s.arch.out := rfl
@[simp] theorem invalidateCp_chip (n : U8) (s : State) : (invalidateCp n s).chip = s.chip := rfl
@[simp] theorem invalidateCp_chipSelect (n : U8) (s : State) :
    (invalidateCp n s).chipSelect = s.chipSelect := rfl
@[simp] theorem invalidateCp_pages (n : U8) (s : State) :
    (invalidateCp n s).pages = s.pages := rfl
@[simp] theorem invalidateCp_env (n : U8) (s : State) : (invalidateCp n s).env = s.env := rfl
@[simp] theorem invalidateCp_trace (n : U8) (s : State) :
    (invalidateCp n s).trace = s.trace := rfl
@[simp] theorem invalidateCp_responses (n : U8) (s : State) :
    (invalidateCp n s).responses = s.responses := rfl
@[simp] theorem invalidateCp_queue (n : U8) (s : State) :
    (invalidateCp n s).queue = s.queue := rfl
@[simp] theorem invalidateCp_draws (n : U8) (s : State) :
    (invalidateCp n s).draws = s.draws := rfl

/-! ### `invalidatePp` -/

@[simp] theorem invalidatePp_arch_adc (n : U8) (s : State) :
    (invalidatePp n s).arch.adc = s.arch.adc := rfl
@[simp] theorem invalidatePp_arch_cp (n : U8) (s : State) :
    (invalidatePp n s).arch.cp = s.arch.cp := rfl
@[simp] theorem invalidatePp_arch_pp (n : U8) (s : State) :
    (invalidatePp n s).arch.pp = { s.arch.pp with invalid := maxU8 s.arch.pp.invalid n } := rfl
@[simp] theorem invalidatePp_arch_cc (n : U8) (s : State) :
    (invalidatePp n s).arch.cc = s.arch.cc := rfl
@[simp] theorem invalidatePp_arch_factory (n : U8) (s : State) :
    (invalidatePp n s).arch.factory = s.arch.factory := rfl
@[simp] theorem invalidatePp_arch_user (n : U8) (s : State) :
    (invalidatePp n s).arch.user = s.arch.user := rfl
@[simp] theorem invalidatePp_arch_cal (n : U8) (s : State) :
    (invalidatePp n s).arch.cal = s.arch.cal := rfl
@[simp] theorem invalidatePp_arch_sm (n : U8) (s : State) :
    (invalidatePp n s).arch.sm = s.arch.sm := rfl
@[simp] theorem invalidatePp_arch_out (n : U8) (s : State) :
    (invalidatePp n s).arch.out = s.arch.out := rfl
@[simp] theorem invalidatePp_chip (n : U8) (s : State) : (invalidatePp n s).chip = s.chip := rfl
@[simp] theorem invalidatePp_chipSelect (n : U8) (s : State) :
    (invalidatePp n s).chipSelect = s.chipSelect := rfl
@[simp] theorem invalidatePp_pages (n : U8) (s : State) :
    (invalidatePp n s).pages = s.pages := rfl
@[simp] theorem invalidatePp_env (n : U8) (s : State) : (invalidatePp n s).env = s.env := rfl
@[simp] theorem invalidatePp_trace (n : U8) (s : State) :
    (invalidatePp n s).trace = s.trace := rfl
@[simp] theorem invalidatePp_responses (n : U8) (s : State) :
    (invalidatePp n s).responses = s.responses := rfl
@[simp] theorem invalidatePp_queue (n : U8) (s : State) :
    (invalidatePp n s).queue = s.queue := rfl
@[simp] theorem invalidatePp_draws (n : U8) (s : State) :
    (invalidatePp n s).draws = s.draws := rfl

end Sys2Proof.Machine
end

