-- ==== Sys2Proof/Laws/Ops.lean ====
section
/-!
SUPPORT. For each shared operation, one lemma that says everything it can do, and small lemmas on the
fields later proofs ask about.
-/

namespace Sys2Proof.Machine

/-! ### The countdown and the passwords -/

/-- The greater of two countdowns, as a number. -/
theorem maxU8_toNat (a b : U8) : (maxU8 a b).toNat = max a.toNat b.toNat := by
  unfold maxU8
  split <;> omega

/-- The password of a step is the base plus the step. -/
theorem passwordOf_eq (n : U8) : passwordOf n = 0x0BB03200 + BitVec.ofNat 32 n.toNat := by
  unfold passwordOf Config.kCalPasswordBase
  congr 1
  apply BitVec.eq_of_toNat_eq
  simp

/-! ### The ADC's SPI -/

/-- A configuration word with `NOP = 0b01` and bit 0 set: the chip takes it. -/
theorem chipReceives_valid (w : U16) (s : State) (hn : w.extractLsb' 1 2 = 0b01#2)
    (hb : w.getLsbD 0 = true) : chipReceives w s = s.withChip (chipTakes w s.chip) := by
  unfold chipReceives
  rw [if_neg (by simp [hn]), if_neg (by simp [hb])]

/-- Whatever word the chip receives, only the chip and the draw counter can change. -/
theorem chipReceives_frame (w : U16) (s : State) :
    ∃ c d, chipReceives w s = { s with chip := c, draws := d } := by
  unfold chipReceives
  split
  · exact ⟨_, _, rfl⟩
  · split <;> exact ⟨_, _, rfl⟩

/-- `SpiWrite16` changes the chip, the draw counter and the trace only. -/
theorem spiWrite16_frame (w : U16) (s : State) :
    ∃ c d, spiWrite16 w s
      = { s with chip := c, draws := d, trace := s.trace ++ [.spiWrite w] } := by
  obtain ⟨c, d, h⟩ := chipReceives_frame w s
  exact ⟨c, d, by simp [spiWrite16, h, State.emit]⟩

/-- A read exchange changes the chip and the trace only. -/
theorem spiReturns_frame (w : U16) (s : State) :
    ∃ c, spiReturns w s = { s with chip := c, trace := s.trace ++ [.spiRead w] } :=
  ⟨_, rfl⟩

/-! ### The Output Guard -/

@[simp] theorem guardDuty_arch_adc (duty : U16) (s : State) : (guardDuty duty s).arch.adc = s.arch.adc := by
  unfold guardDuty; split <;> rfl
@[simp] theorem guardRequestLock_arch_adc (s : State) : (guardRequestLock s).arch.adc = s.arch.adc := rfl
@[simp] theorem guardRelay_arch_adc (req : Bool) (s : State) : (guardRelay req s).arch.adc = s.arch.adc := by
  unfold guardRelay; split <;> rfl
@[simp] theorem guardUnlock_arch_adc (req : Bool) (s : State) : (guardUnlock req s).arch.adc = s.arch.adc := by
  unfold guardUnlock; split <;> rfl
@[simp] theorem setOutput_arch_adc (duty : U16) (req : Bool) (s : State) :
    (setOutput duty req s).arch.adc = s.arch.adc := by
  simp only [setOutput]; split <;> simp

@[simp] theorem guardDuty_arch_cc (duty : U16) (s : State) : (guardDuty duty s).arch.cc = s.arch.cc := by
  unfold guardDuty; split <;> rfl
@[simp] theorem guardRequestLock_arch_cc (s : State) : (guardRequestLock s).arch.cc = s.arch.cc := rfl
@[simp] theorem guardRelay_arch_cc (req : Bool) (s : State) : (guardRelay req s).arch.cc = s.arch.cc := by
  unfold guardRelay; split <;> rfl
@[simp] theorem guardUnlock_arch_cc (req : Bool) (s : State) : (guardUnlock req s).arch.cc = s.arch.cc := by
  unfold guardUnlock; split <;> rfl
@[simp] theorem setOutput_arch_cc (duty : U16) (req : Bool) (s : State) :
    (setOutput duty req s).arch.cc = s.arch.cc := by
  simp only [setOutput]; split <;> simp

@[simp] theorem guardDuty_arch_factory (duty : U16) (s : State) : (guardDuty duty s).arch.factory = s.arch.factory := by
  unfold guardDuty; split <;> rfl
@[simp] theorem guardRequestLock_arch_factory (s : State) : (guardRequestLock s).arch.factory = s.arch.factory := rfl
@[simp] theorem guardRelay_arch_factory (req : Bool) (s : State) : (guardRelay req s).arch.factory = s.arch.factory := by
  unfold guardRelay; split <;> rfl
@[simp] theorem guardUnlock_arch_factory (req : Bool) (s : State) : (guardUnlock req s).arch.factory = s.arch.factory := by
  unfold guardUnlock; split <;> rfl
@[simp] theorem setOutput_arch_factory (duty : U16) (req : Bool) (s : State) :
    (setOutput duty req s).arch.factory = s.arch.factory := by
  simp only [setOutput]; split <;> simp

@[simp] theorem guardDuty_arch_user (duty : U16) (s : State) : (guardDuty duty s).arch.user = s.arch.user := by
  unfold guardDuty; split <;> rfl
@[simp] theorem guardRequestLock_arch_user (s : State) : (guardRequestLock s).arch.user = s.arch.user := rfl
@[simp] theorem guardRelay_arch_user (req : Bool) (s : State) : (guardRelay req s).arch.user = s.arch.user := by
  unfold guardRelay; split <;> rfl
@[simp] theorem guardUnlock_arch_user (req : Bool) (s : State) : (guardUnlock req s).arch.user = s.arch.user := by
  unfold guardUnlock; split <;> rfl
@[simp] theorem setOutput_arch_user (duty : U16) (req : Bool) (s : State) :
    (setOutput duty req s).arch.user = s.arch.user := by
  simp only [setOutput]; split <;> simp

@[simp] theorem guardDuty_arch_cal (duty : U16) (s : State) : (guardDuty duty s).arch.cal = s.arch.cal := by
  unfold guardDuty; split <;> rfl
@[simp] theorem guardRequestLock_arch_cal (s : State) : (guardRequestLock s).arch.cal = s.arch.cal := rfl
@[simp] theorem guardRelay_arch_cal (req : Bool) (s : State) : (guardRelay req s).arch.cal = s.arch.cal := by
  unfold guardRelay; split <;> rfl
@[simp] theorem guardUnlock_arch_cal (req : Bool) (s : State) : (guardUnlock req s).arch.cal = s.arch.cal := by
  unfold guardUnlock; split <;> rfl
@[simp] theorem setOutput_arch_cal (duty : U16) (req : Bool) (s : State) :
    (setOutput duty req s).arch.cal = s.arch.cal := by
  simp only [setOutput]; split <;> simp

@[simp] theorem guardDuty_arch_sm (duty : U16) (s : State) : (guardDuty duty s).arch.sm = s.arch.sm := by
  unfold guardDuty; split <;> rfl
@[simp] theorem guardRequestLock_arch_sm (s : State) : (guardRequestLock s).arch.sm = s.arch.sm := rfl
@[simp] theorem guardRelay_arch_sm (req : Bool) (s : State) : (guardRelay req s).arch.sm = s.arch.sm := by
  unfold guardRelay; split <;> rfl
@[simp] theorem guardUnlock_arch_sm (req : Bool) (s : State) : (guardUnlock req s).arch.sm = s.arch.sm := by
  unfold guardUnlock; split <;> rfl
@[simp] theorem setOutput_arch_sm (duty : U16) (req : Bool) (s : State) :
    (setOutput duty req s).arch.sm = s.arch.sm := by
  simp only [setOutput]; split <;> simp

@[simp] theorem guardDuty_chip (duty : U16) (s : State) : (guardDuty duty s).chip = s.chip := by
  unfold guardDuty; split <;> rfl
@[simp] theorem guardRequestLock_chip (s : State) : (guardRequestLock s).chip = s.chip := rfl
@[simp] theorem guardRelay_chip (req : Bool) (s : State) : (guardRelay req s).chip = s.chip := by
  unfold guardRelay; split <;> rfl
@[simp] theorem guardUnlock_chip (req : Bool) (s : State) : (guardUnlock req s).chip = s.chip := by
  unfold guardUnlock; split <;> rfl
@[simp] theorem setOutput_chip (duty : U16) (req : Bool) (s : State) :
    (setOutput duty req s).chip = s.chip := by
  simp only [setOutput]; split <;> simp

@[simp] theorem guardDuty_chipSelect (duty : U16) (s : State) : (guardDuty duty s).chipSelect = s.chipSelect := by
  unfold guardDuty; split <;> rfl
@[simp] theorem guardRequestLock_chipSelect (s : State) : (guardRequestLock s).chipSelect = s.chipSelect := rfl
@[simp] theorem guardRelay_chipSelect (req : Bool) (s : State) : (guardRelay req s).chipSelect = s.chipSelect := by
  unfold guardRelay; split <;> rfl
@[simp] theorem guardUnlock_chipSelect (req : Bool) (s : State) : (guardUnlock req s).chipSelect = s.chipSelect := by
  unfold guardUnlock; split <;> rfl
@[simp] theorem setOutput_chipSelect (duty : U16) (req : Bool) (s : State) :
    (setOutput duty req s).chipSelect = s.chipSelect := by
  simp only [setOutput]; split <;> simp

@[simp] theorem guardDuty_pages (duty : U16) (s : State) : (guardDuty duty s).pages = s.pages := by
  unfold guardDuty; split <;> rfl
@[simp] theorem guardRequestLock_pages (s : State) : (guardRequestLock s).pages = s.pages := rfl
@[simp] theorem guardRelay_pages (req : Bool) (s : State) : (guardRelay req s).pages = s.pages := by
  unfold guardRelay; split <;> rfl
@[simp] theorem guardUnlock_pages (req : Bool) (s : State) : (guardUnlock req s).pages = s.pages := by
  unfold guardUnlock; split <;> rfl
@[simp] theorem setOutput_pages (duty : U16) (req : Bool) (s : State) :
    (setOutput duty req s).pages = s.pages := by
  simp only [setOutput]; split <;> simp

@[simp] theorem guardDuty_env (duty : U16) (s : State) : (guardDuty duty s).env = s.env := by
  unfold guardDuty; split <;> rfl
@[simp] theorem guardRequestLock_env (s : State) : (guardRequestLock s).env = s.env := rfl
@[simp] theorem guardRelay_env (req : Bool) (s : State) : (guardRelay req s).env = s.env := by
  unfold guardRelay; split <;> rfl
@[simp] theorem guardUnlock_env (req : Bool) (s : State) : (guardUnlock req s).env = s.env := by
  unfold guardUnlock; split <;> rfl
@[simp] theorem setOutput_env (duty : U16) (req : Bool) (s : State) :
    (setOutput duty req s).env = s.env := by
  simp only [setOutput]; split <;> simp

@[simp] theorem guardDuty_responses (duty : U16) (s : State) : (guardDuty duty s).responses = s.responses := by
  unfold guardDuty; split <;> rfl
@[simp] theorem guardRequestLock_responses (s : State) : (guardRequestLock s).responses = s.responses := rfl
@[simp] theorem guardRelay_responses (req : Bool) (s : State) : (guardRelay req s).responses = s.responses := by
  unfold guardRelay; split <;> rfl
@[simp] theorem guardUnlock_responses (req : Bool) (s : State) : (guardUnlock req s).responses = s.responses := by
  unfold guardUnlock; split <;> rfl
@[simp] theorem setOutput_responses (duty : U16) (req : Bool) (s : State) :
    (setOutput duty req s).responses = s.responses := by
  simp only [setOutput]; split <;> simp

@[simp] theorem guardDuty_queue (duty : U16) (s : State) : (guardDuty duty s).queue = s.queue := by
  unfold guardDuty; split <;> rfl
@[simp] theorem guardRequestLock_queue (s : State) : (guardRequestLock s).queue = s.queue := rfl
@[simp] theorem guardRelay_queue (req : Bool) (s : State) : (guardRelay req s).queue = s.queue := by
  unfold guardRelay; split <;> rfl
@[simp] theorem guardUnlock_queue (req : Bool) (s : State) : (guardUnlock req s).queue = s.queue := by
  unfold guardUnlock; split <;> rfl
@[simp] theorem setOutput_queue (duty : U16) (req : Bool) (s : State) :
    (setOutput duty req s).queue = s.queue := by
  simp only [setOutput]; split <;> simp

@[simp] theorem guardDuty_draws (duty : U16) (s : State) : (guardDuty duty s).draws = s.draws := by
  unfold guardDuty; split <;> rfl
@[simp] theorem guardRequestLock_draws (s : State) : (guardRequestLock s).draws = s.draws := rfl
@[simp] theorem guardRelay_draws (req : Bool) (s : State) : (guardRelay req s).draws = s.draws := by
  unfold guardRelay; split <;> rfl
@[simp] theorem guardUnlock_draws (req : Bool) (s : State) : (guardUnlock req s).draws = s.draws := by
  unfold guardUnlock; split <;> rfl
@[simp] theorem setOutput_draws (duty : U16) (req : Bool) (s : State) :
    (setOutput duty req s).draws = s.draws := by
  simp only [setOutput]; split <;> simp

/-- What each part of SET_OUTPUT does to the outputs, the countdowns and the trace, as one closed
term: `guardDuty`. -/
theorem guardDuty_cases (duty : U16) (s : State) :
    (duty = s.arch.out.duty ∧ guardDuty duty s = s) ∨
    (duty ≠ s.arch.out.duty ∧ guardDuty duty s =
      invalidateCp 2 ((s.emit (.pwmSet duty)).withOut { s.arch.out with duty := duty })) := by
  by_cases h : duty = s.arch.out.duty
  · exact .inl ⟨h, by simp [guardDuty, h]⟩
  · exact .inr ⟨h, by simp [guardDuty, h]⟩

/-- The relay part. -/
theorem guardRelay_cases (req : Bool) (s : State) :
    (s.arch.out.contactor = req ∧ guardRelay req s = s) ∨
    (s.arch.out.contactor ≠ req ∧ guardRelay req s =
      (((invalidatePp 4 (invalidateCp 4 s)).emit (.ccInvalidate 5)).emit (.relaySet req)).withOut
        { s.arch.out with contactor := req }) := by
  by_cases h : s.arch.out.contactor = req
  · exact .inl ⟨h, by simp [guardRelay, h]⟩
  · exact .inr ⟨h, by simp [guardRelay, h]⟩

/-- The applied duty is the commanded one, deferred or not. -/
@[simp] theorem setOutput_duty (duty : U16) (req : Bool) (s : State) :
    (setOutput duty req s).arch.out.duty = duty := by
  have h1 : (guardDuty duty s).arch.out.duty = duty := by
    rcases guardDuty_cases duty s with ⟨h, e⟩ | ⟨_, e⟩ <;> rw [e]
    exacts [h.symm, rfl]
  have h2 : ∀ u, (guardRelay req u).arch.out.duty = u.arch.out.duty := fun u => by
    rcases guardRelay_cases req u with ⟨_, e⟩ | ⟨_, e⟩ <;> rw [e] <;> rfl
  have h3 : ∀ u, (guardUnlock req u).arch.out.duty = u.arch.out.duty := fun u => by
    unfold guardUnlock; split <;> rfl
  simp only [setOutput]
  split
  · exact h1
  · rw [h3, h2, h1]

/-- The relay takes the requested state unless the lock deferral applies. -/
theorem setOutput_contactor (duty : U16) (req : Bool) (s : State) :
    (setOutput duty req s).arch.out.contactor =
      if req = true ∧ s.env.inputs.lockState ≠ .closed then s.arch.out.contactor else req := by
  have h1 : (guardDuty duty s).arch.out.contactor = s.arch.out.contactor := by
    rcases guardDuty_cases duty s with ⟨_, e⟩ | ⟨_, e⟩ <;> rw [e] <;> rfl
  have h2 : ∀ u, (guardRelay req u).arch.out.contactor = req := fun u => by
    rcases guardRelay_cases req u with ⟨h, e⟩ | ⟨_, e⟩ <;> rw [e]
    exacts [h, rfl]
  have h3 : ∀ u, (guardUnlock req u).arch.out.contactor = u.arch.out.contactor := fun u => by
    unfold guardUnlock; split <;> rfl
  have hl : (lockClosed s.env.inputs.lockState = false) = (s.env.inputs.lockState ≠ .closed) := by
    simp [lockClosed]
  simp only [setOutput, guardDuty_env, hl]
  split
  · exact h1
  · rw [h3, h2]

/-- Of the CP and PP records SET_OUTPUT writes the countdowns only, which never fall and never rise
above 4. -/
theorem setOutput_channels (duty : U16) (req : Bool) (s : State) :
    ∃ ci pi : U8, (setOutput duty req s).arch.cp = { s.arch.cp with invalid := ci } ∧
      (setOutput duty req s).arch.pp = { s.arch.pp with invalid := pi } ∧
      s.arch.cp.invalid.toNat ≤ ci.toNat ∧ ci.toNat ≤ max s.arch.cp.invalid.toNat 4 ∧
      s.arch.pp.invalid.toNat ≤ pi.toNat ∧ pi.toNat ≤ max s.arch.pp.invalid.toNat 4 := by
  have h3 : ∀ u, (guardUnlock req u).arch.cp = u.arch.cp
      ∧ (guardUnlock req u).arch.pp = u.arch.pp := fun u => by
    unfold guardUnlock; split <;> exact ⟨rfl, rfl⟩
  simp only [setOutput]
  split
  · rcases guardDuty_cases duty s with ⟨_, e⟩ | ⟨_, e⟩ <;> rw [e]
    · exact ⟨s.arch.cp.invalid, s.arch.pp.invalid, rfl, rfl, by omega⟩
    · exact ⟨_, _, rfl, rfl, by simp [maxU8_toNat]; omega⟩
  · rw [(h3 _).1, (h3 _).2]
    rcases guardDuty_cases duty s with ⟨_, e⟩ | ⟨_, e⟩ <;> rw [e] <;>
      [rcases guardRelay_cases req s with ⟨_, e⟩ | ⟨_, e⟩;
       rcases guardRelay_cases req (invalidateCp 2
        ((s.emit (.pwmSet duty)).withOut { s.arch.out with duty := duty })) with ⟨_, e⟩ | ⟨_, e⟩] <;>
      rw [e] <;> refine ⟨_, _, rfl, rfl, ?_⟩ <;> simp [maxU8_toNat] <;> omega

/-- SET_OUTPUT only appends to the trace. It emits `RelaySet(true)` exactly when it turns the relay on,
which it does with the lock closed. -/
theorem setOutput_trace (duty : U16) (req : Bool) (s : State) :
    ∃ ev, (setOutput duty req s).trace = s.trace ++ ev ∧
      (.relaySet true ∈ ev ↔ s.arch.out.contactor = false
        ∧ (setOutput duty req s).arch.out.contactor = true) ∧
      (.relaySet true ∈ ev → s.env.inputs.lockState = .closed) := by
  rw [setOutput_contactor]
  have hl : (lockClosed s.env.inputs.lockState = false) = (s.env.inputs.lockState ≠ .closed) := by
    simp [lockClosed]
  have h1 : ∃ ev, (guardDuty duty s).trace = s.trace ++ ev ∧ .relaySet true ∉ ev
      ∧ (guardDuty duty s).arch.out.contactor = s.arch.out.contactor := by
    rcases guardDuty_cases duty s with ⟨_, e⟩ | ⟨_, e⟩ <;> rw [e]
    · exact ⟨[], by simp⟩
    · exact ⟨[.pwmSet duty], by simp⟩
  have h2 : ∀ u, ∃ ev, (guardRelay req u).trace = u.trace ++ ev
      ∧ (.relaySet true ∈ ev ↔ u.arch.out.contactor = false ∧ req = true) := fun u => by
    rcases guardRelay_cases req u with ⟨h, e⟩ | ⟨h, e⟩ <;> rw [e]
    · exact ⟨[], by cases req <;> simp [h]⟩
    · exact ⟨[.ccInvalidate 5, .relaySet req], by
        cases req <;> cases hc : u.arch.out.contactor <;> simp_all⟩
  have h3 : ∀ u, ∃ ev, (guardUnlock req u).trace = u.trace ++ ev ∧ .relaySet true ∉ ev := fun u => by
    unfold guardUnlock
    split
    · exact ⟨[.lockRequest false], by simp⟩
    · exact ⟨[], by simp⟩
  simp only [setOutput, guardDuty_env, hl]
  obtain ⟨ev1, t1, n1, c1⟩ := h1
  split
  · exact ⟨ev1 ++ [.lockRequest true], by simp [guardRequestLock, t1], by
      cases s.arch.out.contactor <;> simp [n1], by simp [n1]⟩
  · rename_i hd
    obtain ⟨ev2, t2, n2⟩ := h2 (guardDuty duty s)
    obtain ⟨ev3, t3, n3⟩ := h3 (guardRelay req (guardDuty duty s))
    refine ⟨ev1 ++ ev2 ++ ev3, by rw [t3, t2, t1]; simp, ?_, ?_⟩
    · simp only [List.mem_append, n1, n3, n2, c1, false_or, or_false]
    · simp only [List.mem_append, n1, n3, n2, c1, false_or, or_false]
      rintro ⟨_, hr⟩
      by_contra hne
      exact hd ⟨hr, hne⟩

/-! ### SET_STATE -/

/-- The events of entering a state. -/
def entryEvents : ChargeState → List Event
  | .a => [.arbDisconnect, .indicatorReset]
  | .b => [.indicatorReset]
  | .c | .d | .ef => []

/-- The charging timer's start after entering a state. -/
def entryStart (st : ChargeState) (t : U32) (x : Option U32) : Option U32 :=
  match st with
  | .a => none
  | .c => x.or (some t)
  | .b | .d | .ef => x

/-- The entry actions change the charging timer and the trace only. -/
theorem enterState_eq (st : ChargeState) (t : U32) (s : State) :
    enterState st t s = { s with
      arch := { s.arch with
        sm := { s.arch.sm with chargingStart := entryStart st t s.arch.sm.chargingStart } }
      trace := s.trace ++ entryEvents st } := by
  cases st <;> simp [enterState, entryStart, entryEvents, State.emit, State.withSm]

/-- Everything SET_STATE can do. -/
theorem setState_eq (new : ChargeState) (t : U32) (s : State) :
    setState new t s =
      if new = s.arch.sm.state then s else
        let err := if s.arch.sm.state = .ef then some t else s.arch.sm.lastErrorTime
        let dst := if new = .c ∧ holdoff err t = true then .b else new
        if dst = s.arch.sm.state then
          { s with arch := { s.arch with sm := { s.arch.sm with lastErrorTime := err } } }
        else { s with
          arch := { s.arch with sm := { s.arch.sm with
            state := dst, lastStateChange := t, lastErrorTime := err
            chargingStart := entryStart dst t s.arch.sm.chargingStart } }
          trace := s.trace ++ entryEvents dst } := by
  unfold setState
  by_cases h1 : new = s.arch.sm.state
  · simp [h1]
  by_cases h2 : s.arch.sm.state = .ef
  · simp only [leaveEf, refuseC, h2, enterState_eq, if_true]; rfl
  · simp only [h1, leaveEf, refuseC, h2, enterState_eq, if_false]; rfl

/-- SET_STATE writes the state machine's record and the trace only. -/
theorem setState_frame (new : ChargeState) (t : U32) (s : State) :
    ∃ sm ev, setState new t s
      = { s with arch := { s.arch with sm := sm }, trace := s.trace ++ ev } ∧
      ∀ b, .relaySet b ∉ ev := by
  rw [setState_eq]
  by_cases h1 : new = s.arch.sm.state
  · exact ⟨s.arch.sm, [], by simp [h1]⟩
  generalize (if s.arch.sm.state = .ef then some t else s.arch.sm.lastErrorTime) = err
  rw [if_neg h1]
  dsimp only
  generalize (if new = .c ∧ holdoff err t = true then ChargeState.b else new) = dst
  by_cases h2 : dst = s.arch.sm.state
  · exact ⟨_, [], by rw [if_pos h2, List.append_nil], by simp⟩
  · exact ⟨_, _, if_neg h2, fun b => by cases dst <;> simp [entryEvents]⟩

/-- The state SET_STATE leaves: the one asked for, but B where the hold-off refuses C. -/
theorem setState_state (new : ChargeState) (t : U32) (s : State) :
    (setState new t s).arch.sm.state =
      if new = .c ∧ s.arch.sm.state ≠ .c ∧
        (s.arch.sm.state = .ef ∨ holdoff s.arch.sm.lastErrorTime t = true) then .b else new := by
  rw [setState_eq]
  have hs : holdoff (some t) t = true := by simp [holdoff, elapsed]
  by_cases h1 : new = s.arch.sm.state
  · rw [if_pos h1, ← h1, if_neg]
    exact fun h => h.2.1 h.1
  · rw [if_neg h1]
    by_cases h2 : s.arch.sm.state = .ef
    · cases new <;> simp_all
    · cases hh : holdoff s.arch.sm.lastErrorTime t <;> cases new <;>
        cases hx : s.arch.sm.state <;> simp_all

/-- The hold-off in numbers. -/
theorem holdoff_iff (e : Option U32) (t : U32) :
    holdoff e t = true ↔ ∃ x, e = some x ∧ (t - x).toNat < 30000 := by
  cases e <;> simp [holdoff, elapsed, Config.kErrorHoldoffMs]

/-! ### TICK -/

/-- Actuation is one call of SET_OUTPUT, after the A-state handler has cleared the button flag. -/
theorem actuate_eq (st : ChargeState) (ma : Nat) (s : State) :
    actuate st ma s =
      setOutput (if st = .b ∨ st = .c then dutyField ma else 1000) (decide (st = .c))
        { s with arch := { s.arch with sm := { s.arch.sm with
          buttonPressed := if st = .a then false else s.arch.sm.buttonPressed } } } := by
  cases st <;> rfl

/-- Everything a tick can do: nothing, or SET_STATE and the actuation of the state that results, after
at most an error event and a new ID.3 hold stamp. -/
theorem tick_cases (s : State) :
    tick s = s ∨ ∃ new g ev u,
      u = setState new s.env.now { s with
        arch := { s.arch with sm := { s.arch.sm with id3GuardTime := g } }
        trace := s.trace ++ ev } ∧
      (∀ b, .relaySet b ∉ ev) ∧ tick s = actuate u.arch.sm.state s.env.inputs.effMaxMa.toNat u := by
  have fault : ∀ e : ErrorEvent, ∃ new g ev u,
      u = setState new s.env.now { s with
        arch := { s.arch with sm := { s.arch.sm with id3GuardTime := g } }
        trace := s.trace ++ ev } ∧
      (∀ b, .relaySet b ∉ ev) ∧
      faultEntry e s = actuate u.arch.sm.state s.env.inputs.effMaxMa.toNat u := fun e => by
    refine ⟨.ef, s.arch.sm.id3GuardTime, [.error e], _, rfl, by simp, ?_⟩
    rw [setState_state, if_neg (by simp)]
    rfl
  unfold tick
  split
  · exact .inl rfl
  split
  · exact .inr (fault .contactorFault)
  split
  · exact .inr (fault .configFault)
  split
  · exact .inl rfl
  · refine .inr ⟨(evaluate s.env.now s.env.inputs.effMaxMa.toNat s.arch).1,
      (evaluate s.env.now s.env.inputs.effMaxMa.toNat s.arch).2, [], _, rfl, by simp, ?_⟩
    rw [List.append_nil]
    rfl

/-! ### Persistence -/

/-- The defaults' divisor is 1. -/
theorem defaultParams_div (P : Params) : (defaultParams P).div ≠ 0 := by
  change (1 : I16) ≠ 0
  decide

/-- A loaded factory set never has a zero divisor. -/
theorem loadFactory_div (P : Params) (s : State) : (loadFactory P s).div ≠ 0 := by
  unfold loadFactory
  split
  · split
    · assumption
    · exact defaultParams_div P
  · exact defaultParams_div P

/-- A loaded user set never has a zero divisor. -/
theorem loadUser_div (P : Params) (s : State) : (loadUser P s).params.div ≠ 0 := by
  unfold loadUser
  split
  · split
    · assumption
    · exact defaultParams_div P
  · exact defaultParams_div P

/-! ### The moving average -/

/-- The first input fills the window. -/
theorem maUpdate_first (m : MovAvg) (len : Nat) (x : Int) (h : m.init = false) :
    (maUpdate m len x).1 = ⟨true, List.replicate len x, 0, len * x⟩ := by
  simp [maUpdate, h]

/-- A later input replaces the oldest slot. -/
theorem maUpdate_later (m : MovAvg) (len : Nat) (x : Int) (h : m.init = true) :
    (maUpdate m len x).1
      = ⟨true, m.slot.set m.pos x, (m.pos + 1) % len, m.sum - m.slot.getD m.pos 0 + x⟩ := by
  simp [maUpdate, h]

/-- The value returned is the truncated mean of the updated window's sum. -/
theorem maUpdate_value (m : MovAvg) (len : Nat) (x : Int) :
    (maUpdate m len x).2 = Int.tdiv (maUpdate m len x).1.sum len := rfl

/-! ### Selecting the next operation -/

/-- No turn comes before an operation placed for itself. -/
@[simp] theorem gapTurn_whole (n : Nat) : gapTurn .whole n = none := rfl

/-- A turn before a step of SAMPLE is never the ADC task's: that turn is the step itself. -/
theorem gapTurn_conversion_ne_adc (n : Nat) : gapTurn .conversion n ≠ some .adc := by
  change (if Config.gap n = some .adc then none else Config.gap n) ≠ some .adc
  split
  · exact nofun
  · assumption

/-- With no turn due, the operation at the head of the schedule runs next. -/
theorem selected_of_queue {s : State} {slot : Slot} {rest : List Slot} (h : s.queue = slot :: rest)
    (hg : gapTurn slot.part s.draws = none) : selected s = (slot, rest) := by
  simp [selected, h, hg]

/-- With a turn due, that turn's operation runs next. -/
theorem selected_of_turn {s : State} {turn : Turn} (h : turnDue s = some turn) :
    selected s = (turnSlot s.arch.adc.phase turn, keptAfter turn s.queue) := by
  unfold turnDue at h
  unfold selected
  split at h
  · rename_i hq
    cases h
    rw [hq]
    cases Config.turn s.draws <;> rfl
  · rename_i slot rest hq
    rw [hq]
    simp [h]

/-- The operation at the head of the schedule runs next. -/
theorem nextSlot_of_queue {s : State} {slot : Slot} {rest : List Slot} (h : s.queue = slot :: rest)
    (hg : gapTurn slot.part s.draws = none) : nextSlot s = slot := by
  rw [nextSlot, selected_of_queue h hg]

/-- Fetching changes ENV's answers, the schedule and the draw counter only. -/
theorem fetched_frame (s : State) :
    fetched s = { s with
      env := (fetched s).env, queue := (selected s).2, draws := s.draws + 1 } := rfl

@[simp] theorem fetched_arch (s : State) : (fetched s).arch = s.arch := rfl
@[simp] theorem fetched_chip (s : State) : (fetched s).chip = s.chip := rfl
@[simp] theorem fetched_chipSelect (s : State) : (fetched s).chipSelect = s.chipSelect := rfl
@[simp] theorem fetched_pages (s : State) : (fetched s).pages = s.pages := rfl
@[simp] theorem fetched_trace (s : State) : (fetched s).trace = s.trace := rfl
@[simp] theorem fetched_responses (s : State) : (fetched s).responses = s.responses := rfl
@[simp] theorem fetched_queue (s : State) : (fetched s).queue = (selected s).2 := rfl

/-- A repeated operation goes back into the schedule; nothing else changes. -/
theorem requeue_frame (slot : Slot) (before after : State) :
    ∃ q, requeue slot before after = { after with queue := q } := by
  unfold requeue
  split
  · exact ⟨_, rfl⟩
  · exact ⟨after.queue, rfl⟩

/-- A code that its decoder refuses changes the chip, the trace and the draw counter at most. -/
theorem rejected_frame (c : Code) (s : State) :
    rejected c s = s ∨ ∃ w, rejected c s = spiWrite16 w s := by
  unfold rejected
  split
  · exact .inr ⟨_, rfl⟩
  all_goals exact .inl rfl

/-- A next step of the machine is the meaning of the decoded operation, or what a refused code does. -/
theorem step_next {s t : State} (h : step s = .next t) :
    (∃ i u, decode (nextSlot s).code = .ok i ∧ exec i (fetched s) = .next u
      ∧ t = requeue (nextSlot s) (fetched s) u) ∨ t = rejected (nextSlot s).code (fetched s) := by
  unfold step at h
  split at h
  · rename_i i hd
    split at h
    · rename_i u he
      exact .inl ⟨i, u, hd, he, (Host.Outcome.next.inj h).symm⟩
    · cases h
    · cases h
  · exact .inr (Host.Outcome.next.inj h).symm

end Sys2Proof.Machine
end

