-- ==== Sys2Proof/Laws/PerInstr.lean ====
section
/-!
SUPPORT. The per-instruction family FrameLength: the encoding of every operation has the length
the opcode table gives its mnemonic ("length_bytes"; two bytes for an ADC word, four for a
password, none for a pseudo-instruction).
-/

namespace Sys2Proof.Laws

/-- How many bytes a code carries on its port. -/
def codeLength : Code → Nat
  | .host bytes => bytes.length
  | .step bytes _ => bytes.length
  | .spiOut bytes => bytes.length
  | .spiIn bytes => bytes.length
  | .password bytes => bytes.length
  | .asm _ => 0

/-- The opcode table's length of a row. -/
def tableLength (mnemonic : String) : Nat :=
  if mnemonic = "SET_MAX_CURRENT" ∨ mnemonic = "CAL_ABORT" then 5
  else if mnemonic = "CAL_STEP" then 8
  else if mnemonic = "GET_CALIBRATION" then 2
  else if mnemonic = "SET_USER_CALIBRATION" then 42
  else if mnemonic = "ADS1118_CFG_NORMAL" ∨ mnemonic = "ADS1118_CFG_FAST"
    ∨ mnemonic = "ADS1118_CFG_TEMP" ∨ mnemonic = "ADS1118_SAMPLE" then 2
  else if mnemonic = "CAL_PASSWORD" then 4
  else if mnemonic = "CAL_PASS" ∨ mnemonic = "CAL_SEQUENCE" ∨ mnemonic = "SAMPLE" then 0
  else 1

/-- The encoding of `i` is as long as its row says. -/
def FrameLength.Statement (i : Instr) : Prop := codeLength (encode i) = tableLength i.mnemonic

/-- Fourteen 16-bit fields take 28 bytes. -/
theorem bytes16_flatMap_length (l : List (BitVec 16)) :
    (l.flatMap bytes16).length = 2 * l.length := by
  induction l with
  | nil => rfl
  | cons x l ih => simp only [List.flatMap_cons, List.length_append, ih, bytes16, List.length_cons,
      List.length_nil]; omega

/-- A parameter set takes 36 bytes. -/
theorem bytesOfParams_length (p : CalParams) : (bytesOfParams p).length = 36 := by
  simp [bytesOfParams, bytes16]

theorem FrameLength.getState :
    FrameLength.Statement .getState := by rfl

theorem FrameLength.getAdcValues :
    FrameLength.Statement .getAdcValues := by rfl

theorem FrameLength.getVoltages :
    FrameLength.Statement .getVoltages := by rfl

theorem FrameLength.getResistances :
    FrameLength.Statement .getResistances := by rfl

theorem FrameLength.getPpCurrent :
    FrameLength.Statement .getPpCurrent := by rfl

theorem FrameLength.setMaxCurrent (ma : U32) :
    FrameLength.Statement (.setMaxCurrent ma) := by rfl

theorem FrameLength.startCharging :
    FrameLength.Statement .startCharging := by rfl

theorem FrameLength.stopCharging :
    FrameLength.Statement .stopCharging := by rfl

theorem FrameLength.calStep (step : U8) (password : U32) (value : I16) :
    FrameLength.Statement (.calStep step password value) := by rfl

theorem FrameLength.calAbort (password : U32) :
    FrameLength.Statement (.calAbort password) := by rfl

theorem FrameLength.getCalibration (which : CalSet) :
    FrameLength.Statement (.getCalibration which) := by rfl

theorem FrameLength.setUserCalibration (password : U32) (active : Bool) (params : CalParams) :
    FrameLength.Statement (.setUserCalibration password active params) := by
  simp [FrameLength.Statement, encode, codeLength, tableLength, Instr.mnemonic, bytes32, bytesOfParams_length]

theorem FrameLength.adcConfigure :
    FrameLength.Statement .adcConfigure := by rfl

theorem FrameLength.adcDelay :
    FrameLength.Statement .adcDelay := by rfl

theorem FrameLength.adcWaitDrdy :
    FrameLength.Statement .adcWaitDrdy := by rfl

theorem FrameLength.adcRead :
    FrameLength.Statement .adcRead := by rfl

theorem FrameLength.updateCp (code : I16) :
    FrameLength.Statement (.updateCp code) := by rfl

theorem FrameLength.updatePp (code : I16) :
    FrameLength.Statement (.updatePp code) := by rfl

theorem FrameLength.ccUpdate (code : I16) :
    FrameLength.Statement (.ccUpdate code) := by rfl

theorem FrameLength.tick :
    FrameLength.Statement .tick := by rfl

theorem FrameLength.setState (new : ChargeState) (t : U32) :
    FrameLength.Statement (.setState new t) := by rfl

theorem FrameLength.setOutput (duty : U16) (req : Bool) :
    FrameLength.Statement (.setOutput duty req) := by rfl

theorem FrameLength.resetPowerOn :
    FrameLength.Statement .resetPowerOn := by rfl

theorem FrameLength.resetSupervising :
    FrameLength.Statement .resetSupervising := by rfl

theorem FrameLength.ads1118CfgNormal (mux pga : BitVec 3) :
    FrameLength.Statement (.ads1118CfgNormal mux pga) := by rfl

theorem FrameLength.ads1118CfgFast (mux pga : BitVec 3) :
    FrameLength.Statement (.ads1118CfgFast mux pga) := by rfl

theorem FrameLength.ads1118CfgTemp (pga : BitVec 3) :
    FrameLength.Statement (.ads1118CfgTemp pga) := by rfl

theorem FrameLength.ads1118Sample (word : U16) :
    FrameLength.Statement (.ads1118Sample word) := by rfl

theorem FrameLength.calPassword (step : BitVec 5) :
    FrameLength.Statement (.calPassword step) := by rfl

theorem FrameLength.calPass (step : U8) (value : I16) :
    FrameLength.Statement (.calPass step value) := by rfl

theorem FrameLength.calSequence (v0 v16 : I16) :
    FrameLength.Statement (.calSequence v0 v16) := by rfl

theorem FrameLength.sample :
    FrameLength.Statement .sample := by rfl

end Sys2Proof.Laws
end

