-- ==== Sys2Proof/Tests/Slice0.lean ====
section
/-!
SUPPORT. Tests: the well-formedness checks, words written out from the encoding tables, small vectors
of 95_test_vectors.md, and for every statement with hypotheses a state and operands that meet them.
Vectors that depend on open parameters use the reference values of 00_scope.md rule R13.
-/

namespace Sys2Proof.Tests

open Sys2Proof Sys2Proof.Machine

/-! ### Helpers -/

/-- The reference parameters. -/
abbrev P0 : Machine.Params := Config.Params.reference Arch

/-- The state right after power-on with the reference parameters and an empty trace. -/
def base : State := { State.reset with arch := Arch.atReset P0, trace := [] }

/-- `base` at a time. -/
def baseAt (t : U32) : State := { base with env := { base.env with now := t } }

/-- `s` with a state machine record. -/
def inState (st : ChargeState) (err : Option U32) (s : State) : State :=
  s.withSm { s.arch.sm with state := st, lastErrorTime := err }

/-- `s` with outputs. -/
def driving (duty : U16) (contactor : Bool) (s : State) : State :=
  s.withOut { s.arch.out with duty := duty, contactor := contactor }

/-- `s` with the lock in a state. -/
def locked (l : LockState) (s : State) : State :=
  { s with env := { s.env with inputs := { s.env.inputs with lockState := l } } }

/-- `s` with a current limit. -/
def limited (ma : U32) (s : State) : State :=
  { s with env := { s.env with inputs := { s.env.inputs with effMaxMa := ma } } }

/-- `s` with a published CP resistance. -/
def reading (r : U32) (s : State) : State :=
  s.withArch { s.arch with cp := { s.arch.cp with resistance := r } }

/-- `s` ready to start a factory session. -/
def sessionReady (v : I16) (s : State) : State :=
  s.withArch { s.arch with cp := { s.arch.cp with resistance := 0xFFFF, voltage := v } }

/-- `s` with the ADC task in a phase. -/
def inPhaseOf (p : AdcPhase) (s : State) : State := s.withAdc { s.arch.adc with phase := p }

/-- `s` with one operation placed. -/
def placing (i : Instr) (star : Bool) (s : State) : State :=
  { s with queue := [⟨encode i, none, star, .whole⟩] }

/-- A parameter set with every reference at 6000 mV. -/
def someParams (div : I16) : CalParams := ⟨1, div, -50, 9000, Vector.replicate 14 6000⟩

/-! ### WellFormed: each check refuses an ill-formed operation (30_encoding.md rule R66) -/

theorem test_wf_calPassword_17_refused : (Instr.calPassword 17).wellFormed = false := by decide
theorem test_wf_calPassword_16_accepted : (Instr.calPassword 16).wellFormed = true := by decide

/-! ### Decoding: one word per constructor, written out from the tables -/

theorem test_decode_getState : decode (.host [0x01]) = .ok .getState := by decide
theorem test_decode_getAdcValues : decode (.host [0x02]) = .ok .getAdcValues := by decide
theorem test_decode_getVoltages : decode (.host [0x03]) = .ok .getVoltages := by decide
theorem test_decode_getResistances : decode (.host [0x04]) = .ok .getResistances := by decide
theorem test_decode_getPpCurrent : decode (.host [0x05]) = .ok .getPpCurrent := by decide
/-- V30-3 -/
theorem test_decode_setMaxCurrent :
    decode (.host [0x10, 0xC8, 0x32, 0x00, 0x00]) = .ok (.setMaxCurrent 13000) := by decide
theorem test_decode_startCharging : decode (.host [0x11]) = .ok .startCharging := by decide
theorem test_decode_stopCharging : decode (.host [0x12]) = .ok .stopCharging := by decide
/-- V30-3 -/
theorem test_decode_calStep :
    decode (.host [0x20, 0x10, 0x10, 0x32, 0xB0, 0x0B, 0xCE, 0xFF])
      = .ok (.calStep 16 0x0BB03210 (-50)) := by decide
/-- V30-3 -/
theorem test_decode_calAbort :
    decode (.host [0x21, 0x05, 0x32, 0xB0, 0x0B]) = .ok (.calAbort 0x0BB03205) := by decide
theorem test_decode_getCalibration :
    decode (.host [0x30, 0x01]) = .ok (.getCalibration .user) := by decide
/-- V30-3, with the password 0x04030201 -/
theorem test_decode_setUserCalibration :
    decode (.host ([0x31, 0x01, 0x02, 0x03, 0x04, 0x01, 0x01, 0x00, 0x01, 0x00, 0xCE, 0xFF, 0x28, 0x23]
        ++ [0x70, 0x17, 0x71, 0x17, 0x72, 0x17, 0x73, 0x17, 0x74, 0x17, 0x75, 0x17, 0x76, 0x17]
        ++ [0x77, 0x17, 0x78, 0x17, 0x79, 0x17, 0x7A, 0x17, 0x7B, 0x17, 0x7C, 0x17, 0x7D, 0x17]))
      = .ok (.setUserCalibration 0x04030201 true ⟨1, 1, -50, 9000,
          #v[6000, 6001, 6002, 6003, 6004, 6005, 6006, 6007, 6008, 6009, 6010, 6011, 6012, 6013]⟩) := by
  decide
theorem test_decode_adcConfigure : decode (.step [0x80] .none) = .ok .adcConfigure := by decide
theorem test_decode_adcDelay : decode (.step [0x81] .none) = .ok .adcDelay := by decide
theorem test_decode_adcWaitDrdy : decode (.step [0x82] .none) = .ok .adcWaitDrdy := by decide
theorem test_decode_adcRead : decode (.step [0x83] .none) = .ok .adcRead := by decide
theorem test_decode_updateCp :
    decode (.step [0x84] { CallArgs.none with code := 31643 }) = .ok (.updateCp 31643) := by decide
theorem test_decode_updatePp :
    decode (.step [0x85] { CallArgs.none with code := 14400 }) = .ok (.updatePp 14400) := by decide
theorem test_decode_ccUpdate :
    decode (.step [0x86] { CallArgs.none with code := -1 }) = .ok (.ccUpdate (-1)) := by decide
theorem test_decode_tick : decode (.step [0x88] .none) = .ok .tick := by decide
theorem test_decode_setState :
    decode (.step [0x89] { CallArgs.none with new := .c, t := 6000 }) = .ok (.setState .c 6000) := by
  decide
theorem test_decode_setOutput :
    decode (.step [0x8A] { CallArgs.none with duty := 216, req := true })
      = .ok (.setOutput 216 true) := by decide
theorem test_decode_resetPowerOn : decode (.step [0x8E] .none) = .ok .resetPowerOn := by decide
theorem test_decode_resetSupervising : decode (.step [0x8F] .none) = .ok .resetSupervising := by decide
/-- V30-1: SS 1, MUX 100, PGA 001, MODE 1, DR 000, TS 0, PULL_UP 1, NOP 01, reserved 1 -/
theorem test_decode_cfgNormal :
    decode (.spiOut [0b11000011, 0b00001011]) = .ok (.ads1118CfgNormal 0b100 0b001) := by decide
/-- V30-1: SS 0, MUX 101, PGA 001, MODE 0, DR 010, TS 0, PULL_UP 1, NOP 01, reserved 1 -/
theorem test_decode_cfgFast :
    decode (.spiOut [0b01010010, 0b01001011]) = .ok (.ads1118CfgFast 0b101 0b001) := by decide
/-- V30-1: SS 1, MUX 000, PGA 001, MODE 1, DR 000, TS 1, PULL_UP 1, NOP 01, reserved 1 -/
theorem test_decode_cfgTemp :
    decode (.spiOut [0b10000011, 0b00011011]) = .ok (.ads1118CfgTemp 0b001) := by decide
/-- V30-2 -/
theorem test_decode_sample : decode (.spiIn [0x7B, 0x9B]) = .ok (.ads1118Sample 31643) := by decide
/-- S6 -/
theorem test_decode_password :
    decode (.password [0x05, 0x32, 0xB0, 0x0B]) = .ok (.calPassword 5) := by decide
theorem test_decode_calPass : decode (.asm (.calPass 3 0)) = .ok (.calPass 3 0) := by decide
theorem test_decode_calSequence :
    decode (.asm (.calSequence 12000 (-50))) = .ok (.calSequence 12000 (-50)) := by decide
theorem test_decode_sampleLine : decode (.asm .sample) = .ok .sample := by decide

/-- V30-4: the refused frames, by name -/
theorem test_refused_frames :
    decode (.host [0x30, 0x03]) = .error .badSelector
    ∧ decode (.host [0x11, 0x00]) = .error .wrongLength
    ∧ decode (.host [0x88]) = .error .internalOpcode
    ∧ decode (.host [0x06]) = .error .unknownOpcode
    ∧ decode (.host ([0x31, 0, 0, 0, 0, 0x02] ++ List.replicate 36 0)) = .error .badBool
    ∧ decode (.host [0x20, 0x00, 0x00, 0x32, 0xB0, 0x0B, 0xE0]) = .error .wrongLength
    ∧ decode (.host []) = .error .emptyFrame := by decide
theorem test_refused_words :
    decode (.spiOut [0xC3, 0x0A]) = .error .notAConfigWord
    ∧ decode (.password [0x11, 0x32, 0xB0, 0x0B]) = .error .notAPassword
    ∧ decode (.step [0x87] .none) = .error .notAStep := by decide

/-- V30-1: the five words of the reference parameters -/
theorem test_cfg_words :
    cfgWord P0 .cp .normal = 0xC30B ∧ cfgWord P0 .pp .normal = 0xD30B
    ∧ cfgWord P0 .cp .fast = 0x424B ∧ cfgWord P0 .pp .fast = 0x524B
    ∧ cfgWord P0 .temp .normal = 0x831B := by decide
/-- V30-5: the response bytes of GET_STATE after a reset -/
theorem test_response_bytes :
    responseBytes (.state 4 1000 false 0 0 false)
      = [0x04, 0xE8, 0x03, 0x00, 0x00, 0x00, 0x00, 0x00, 0x00, 0x00] := by decide
/-- R74: an example line -/
theorem test_asm : (Instr.setMaxCurrent 16000).asm = "SET_MAX_CURRENT 16000" := by decide
/-- A table word runs as the first instruction after reset: GET_STATE answers -/
theorem test_first_word_runs :
    ∃ t, step (State.reset.withFetchWord 8 0x01) = .next t
      ∧ t.responses = [.state 4 1000 false 0 0 false] := ⟨_, rfl, rfl⟩
/-- A table word whose operand bytes are zeros: CAL_STEP with password 0 answers false -/
theorem test_first_word_rejected_step :
    ∃ t, step (State.reset.withFetchWord 64 0x20) = .next t ∧ t.responses = [.ok false] :=
  ⟨_, rfl, rfl⟩

/-! ### ADC transport -/

/-- V40-1 -/
theorem test_adcConfigure :
    let s := (baseAt 40).withAdc { base.arch.adc with channel := .pp }
    let t := adcConfigure P0
      { s with env := { s.env with inputs := { s.env.inputs with fastMode := true } } }
    t.trace = [.cs true, .spiWrite 0x524B, .cs false]
    ∧ t.arch.adc = ⟨.delay, .pp, .fast, 0x524B, 40⟩ ∧ t.chip = ⟨0x524B, .continuous⟩ := by decide
/-- V40-2 -/
theorem test_adcDelay :
    let P : Machine.Params := { P0 with firstSampleDelayMs := 5 }
    let s (t : U32) := (baseAt t).withAdc { base.arch.adc with phase := .delay, t0 := 100 }
    adcDelay P (s 104) = s 104
    ∧ (adcDelay P (s 105)).arch.adc.phase = .waitDrdy ∧ (adcDelay P (s 105)).arch.adc.t0 = 105
    ∧ (adcDelay P (s 105)).trace = [.cs true] := by decide
/-- V40-3 and V40-5; the reference ready level is 0, so a high line is not ready -/
theorem test_adcWaitDrdy_timeout :
    let s (t t0 : U32) :=
      let b := (baseAt t).withAdc ⟨.waitDrdy, .cp, .normal, 0xC30B, t0⟩
      { b with env := { b.env with inputs := { b.env.inputs with drdyLine := true } } }
    adcWaitDrdy P0 (s 299 100) = s 299 100
    ∧ (adcWaitDrdy P0 (s 300 100)).trace
      = [.error (.adcTimeout .cp 0xC30B), .cs false, .cs true, .spiWrite 0xC30B]
    ∧ (adcWaitDrdy P0 (s 300 100)).arch.adc = ⟨.waitDrdy, .cp, .normal, 0xC30B, 300⟩
    ∧ (adcWaitDrdy P0 (s 0x68 0xFFFFFFA0)).arch.adc.t0 = 0x68 := by decide
/-- V40-4: ready wins over the timeout -/
theorem test_adcWaitDrdy_ready :
    (adcWaitDrdy P0 ((baseAt 5000).withAdc ⟨.waitDrdy, .cp, .normal, 0xC30B, 0⟩)).arch.adc
      = ⟨.read, .cp, .normal, 0xC30B, 0⟩ := by decide
/-- P5, the read: code -32768, wrapped voltage, open resistance, PP next -/
theorem test_adcRead :
    let b := (baseAt 425).withAdc ⟨.read, .cp, .normal, 0xC30B, 200⟩
    let t := adcRead P0
      { b with env := { b.env with inputs := { b.env.inputs with spiWord := 0x8000 } } }
    t.trace = [.spiRead 0x8000, .cs false] ∧ t.arch.adc.channel = .pp
    ∧ t.arch.adc.phase = .configure ∧ t.arch.cp.raw.toInt = -32768
    ∧ t.arch.cp.voltage.toInt = 15872 ∧ t.arch.cp.resistance = 65535 := by decide
/-- V41-9: a sample is discarded while the countdown runs, and its raw code is stored -/
theorem test_adcRead_discards :
    let b := reading 2700 (base.withAdc ⟨.read, .cp, .normal, 0, 0⟩)
    let t := adcRead P0 { b with
      arch := { b.arch with cp := { b.arch.cp with invalid := 2 } }
      env := { b.env with inputs := { b.env.inputs with spiWord := 10595 } } }
    t.arch.cp.raw = 10595 ∧ t.arch.cp.invalid = 1 ∧ t.arch.cp.resistance = 2700
    ∧ t.arch.cp.voltage = 0 := by decide

/-! ### Signal pipeline and estimator -/

/-- V41-1 -/
theorem test_cpVoltage :
    [6574, 31643, 31644, 28510, 10595, 0, 32767, -15120, -15121, -32768].map
      (fun c => (cpVoltage c).toInt)
      = [-12000, 12000, 12000, 9000, -8151, -18293, 13076, -32768, 32767, 15872] := by decide
/-- V41-2 -/
theorem test_calScale :
    (wrap16 (calScale 12000 12000 11950)).toInt = 12050 ∧ calScale (-7) 1 2 = -3
    ∧ calScale 7 1 (-2) = -3 ∧ (wrap16 (calScale 13076 3 1)).toInt = -26308 := by decide
/-- V41-3 -/
theorem test_highVoltage :
    highVoltage (-7503) (-12050) 216 = 9000 ∧ highVoltage (-8151) (-12050) 216 = 6000
    ∧ highVoltage 13076 (-12050) 80 = 302025 ∧ highVoltage 12000 (-12050) 1000 = 12000 := by decide
/-- V41-4 to V41-6 -/
theorem test_cpResistance :
    [12000, 11000, 10999, 10000, 9000, 6000, 3000, 651, 650, -5000].map
      (cpResistance 650 12000 2700 9000)
      = [65535, 65535, 10029, 4535, 2700, 864, 253, 0, 0, 0]
    ∧ [10999, 9000, 6000, 2000, 1000].map (cpResistance 650 12000 880 6000)
      = [10203, 2746, 880, 133, 31]
    ∧ cpResistance 650 12000 2700 0 9000 = 65535 ∧ cpResistance 650 12000 2700 12000 9000 = 65535
    ∧ cpResistance 650 0 2700 0 (-1001) = 65535 := by decide
/-- S5 -/
theorem test_idx880 : [6000, 8000, 13000, 32000, 0, 100000].map idx880 = [0, 1, 3, 13, 0, 13] := by
  decide
/-- V41-7 -/
theorem test_ppResistance :
    [4850, 4849, 4095, 2369, 1800, 1, 0, -1].map ppResistance
      = [65535, 32112, 4524, 900, 562, 0, 0, 0] := by decide
/-- V41-8 -/
theorem test_movingAverage :
    let m := (maUpdate (MovAvg.atReset 4) 4 2700).1
    m = ⟨true, [2700, 2700, 2700, 2700], 0, 10800⟩
    ∧ (maUpdate m 4 65535).2 = 18408
    ∧ (maUpdate (maUpdate m 4 65535).1 4 65535).2 = 34117 := by decide
/-- V41-12 -/
theorem test_updateCp :
    let a := { base.arch with cc := { base.arch.cc with maxVoltage := 12000, minVoltage := -12050 } }
    let t := updateCp P0 base.env 31643 a
    t.cp.voltage = 12000 ∧ t.cp.calVoltage = 12000 ∧ t.cp.highVoltage = 12000
    ∧ t.cp.resistance = 65535 ∧ t.cc = a.cc := by decide
/-- R116: at duty 0 UPDATE_CP stops after the voltages -/
theorem test_updateCp_duty0 :
    let a := { base.arch with out := { base.arch.out with duty := 0 } }
    let t := updateCp P0 base.env 31643 a
    t.cp.voltage = 12000 ∧ t.cp.highVoltage = 0 ∧ t.cp.resistance = 0 := by decide
/-- R119, the example: code 14400 -/
theorem test_updatePp :
    (updatePp 14400 base.arch).pp.voltage = 1800 ∧ (updatePp 14400 base.arch).pp.resistance = 562 := by
  decide
/-- V42-2, enabled 500 ms after the state change -/
theorem test_ccUpdate :
    let a := { base.arch with sm := { base.arch.sm with state := .a, lastStateChange := 10 } }
    let t := ccUpdate P0 (baseAt 510).env 31643 a
    t.cc.maxVoltage.toInt = 12000 ∧ t.cc.minVoltage.toInt = -12050 ∧ t.cc.qinit = true
    ∧ t.cc.queue = List.replicate 6 31643 := by decide
/-- V42-1: 499 ms is too early; a session freezes -/
theorem test_ccUpdate_frozen :
    let a := { base.arch with sm := { base.arch.sm with state := .a, lastStateChange := 10 } }
    ccUpdate P0 (baseAt 509).env 31643 a = a
    ∧ ccUpdate P0 (baseAt 510).env 31643 { a with cal := ⟨3⟩ } = { a with cal := ⟨3⟩ } := by decide
/-- V42-4 -/
theorem test_rankCode :
    rankCode 6 [31643, 30859, 30076, 29293, 28510, 31643] = 31643
    ∧ rankCode 6 [31643, 30859, 30076, 29293, 28510, 28510] = 30859
    ∧ (cpVoltage (rankCode 6 [31643, 30859, 30076, 29293, 28510, 28510]).toInt).toInt = 11249 := by
  decide

/-! ### State machine -/

/-- V44-1 -/
theorem test_classify :
    [65535, 10001, 10000, 1791, 1790, 561, 560, 151, 150, 0].map (fun r => classify r 1)
      = [.a, .a, .b, .b, .c, .c, .d, .d, .ef, .ef]
    ∧ classify 1790 0 = .b ∧ classify 561 0 = .b := by decide
/-- V44-2 -/
theorem test_dutyForCurrent :
    [0, 1, 4000, 4800, 4860, 6000, 13000, 16000, 32000, 51000, 51001, 80000, 90000, 100000].map
      dutyForCurrent
      = [1000, 80, 80, 80, 81, 100, 216, 266, 533, 850, 844, 960, 1000, 1000] := by decide
/-- V44-4 -/
theorem test_id3 :
    let sm (g : Option U32) : Sm := { base.arch.sm with state := .b, id3GuardTime := g }
    id3Evaluate 30001 1000 (sm none) = (.b, some 1000)
    ∧ id3Evaluate 30001 3499 (sm (some 1000)) = (.b, some 1000)
    ∧ id3Evaluate 30001 3500 (sm (some 1000)) = (.a, some 1000)
    ∧ id3Evaluate 30000 1000 (sm (some 500)) = (.b, none) := by decide
/-- V44-7: EF to C goes to B, with the error time and one event -/
theorem test_setState_leaving_ef :
    let t := setState .c 7000 (inState .ef none base)
    t.arch.sm.state = .b ∧ t.arch.sm.lastErrorTime = some 7000 ∧ t.trace = [.indicatorReset]
    ∧ t.arch.sm.chargingStart = none := by decide
/-- V44-8 and V44-9: the hold-off boundary, and across a wrap of the time base -/
theorem test_setState_holdoff :
    setState .c 30999 (inState .b (some 1000) base) = inState .b (some 1000) base
    ∧ (setState .c 31000 (inState .b (some 1000) base)).arch.sm.state = .c
    ∧ (setState .c 31000 (inState .b (some 1000) base)).arch.sm.chargingStart = some 31000
    ∧ (setState .c 0x6000 (inState .b (some 0xFFFFF000) base)).arch.sm.state = .b := by decide
/-- V44-3: a session masks a fault; the contactor fault comes before the configuration fault -/
theorem test_tick_priority :
    let faulty (s : State) : State :=
      { s with env := { s.env with
          inputs := { s.env.inputs with ccError := true, jumperUnconfigured := true } } }
    tick ((faulty base).withCalStep 5) = (faulty base).withCalStep 5
    ∧ (tick (faulty (inState .a none base))).trace = [.error .contactorFault] := by decide
/-- P4, the first tick: a contactor fault in C with the lock closed -/
theorem test_tick_fault :
    let s := locked .closed (driving 216 true (inState .c none (baseAt 102750)))
    let t := tick { s with env := { s.env with inputs := { s.env.inputs with ccError := true } } }
    t.arch.sm.state = .ef
    ∧ t.trace = [.error .contactorFault, .pwmSet 1000, .ccInvalidate 5, .relaySet false,
      .lockRequest false] := by decide
/-- V44-20: state A, resistance 2000, 13000 mA: B with duty 216 -/
theorem test_tick_b :
    let t := tick (limited 13000 (reading 2000 (inState .a none base)))
    t.arch.sm.state = .b ∧ t.arch.out.duty = 216 ∧ t.trace = [.indicatorReset, .pwmSet 216]
    ∧ t.arch.cp.invalid = 2 := by decide

/-! ### Output Guard: V45-1 to V45-9 -/

theorem test_setOutput_duty :
    let t := setOutput 216 false (driving 1000 false base)
    t.trace = [.pwmSet 216] ∧ t.arch.cp.invalid = 2 ∧ t.arch.pp.invalid = 0 := by decide
theorem test_setOutput_relay :
    let on := setOutput 216 true (locked .closed (driving 216 false base))
    let off := setOutput 1000 false (locked .closed (driving 216 true base))
    let deferred := setOutput 216 true (locked .moving (driving 216 true base))
    on.trace = [.ccInvalidate 5, .relaySet true] ∧ on.arch.cp.invalid = 4 ∧ on.arch.pp.invalid = 4
    ∧ off.trace = [.pwmSet 1000, .ccInvalidate 5, .relaySet false, .lockRequest false]
    ∧ deferred.trace = [.lockRequest true] ∧ deferred.arch.out.contactor = true := by decide

/-! ### Factory session -/

/-- V43-6 -/
theorem test_calStep_0 :
    let t := calStep P0 0 0x0BB03200 12000 (sessionReady 11950 base)
    t.responses = [.ok true] ∧ t.arch.factory.mul = 12000 ∧ t.arch.factory.div = 11950
    ∧ t.arch.cal.step = 1 ∧ t.trace = [] := by decide
/-- V43-1 to V43-5: every rejection -/
theorem test_calStep_rejected :
    (calStep P0 1 0x0BB03201 0 (sessionReady 12000 base)).responses = [.ok false]
    ∧ (calStep P0 0 0x0BB03201 12000 (sessionReady 12000 base)).responses = [.ok false]
    ∧ (calStep P0 17 0x0BB03211 0 (sessionReady 12000 base)).responses = [.ok false]
    ∧ (calStep P0 0 0x0BB03200 12000 (reading 2700 (sessionReady 12000 base))).responses
      = [.ok false]
    ∧ (calStep P0 0 0x0BB03200 12000 (sessionReady 0 base)).responses = [.ok false] := by decide
/-- V43-8 -/
theorem test_calStep_16 :
    let t := calStep P0 16 0x0BB03210 (-50) ((driving 566 false base).withCalStep 16)
    t.arch.factory.diff = -50 ∧ t.arch.cal.step = 0
    ∧ t.trace = [.pwmSet 1000, .persistSaved 1 (.factory t.arch.factory)] := by decide
/-- V43-7 -/
theorem test_calAbort :
    let s := (driving 233 false base).withCalStep 5
    let t := calAbort P0 0x0BB03205 s
    (calAbort P0 0x0BB03200 s).responses = [.ok false]
    ∧ t.responses = [.ok true] ∧ t.arch.cal.step = 0 ∧ t.trace = [.pwmSet 1000]
    ∧ t.arch.cp.invalid = 2 := by decide
/-- R75: CAL_PASS 1 performs step 1, duty 100 -/
theorem test_calPass :
    ∃ t, exec (.calPass 1 0) (State.reset.withCalStep 1) = .next t
      ∧ t.arch.out.duty = 100 ∧ t.arch.cal.step = 2 := ⟨_, rfl, by decide, by decide⟩
/-- R75: CAL_SEQUENCE places 17 operations -/
theorem test_calSequence :
    ∃ t, exec (.calSequence 12000 (-50)) State.reset = .next t ∧ t.queue.length = 17 :=
  ⟨_, rfl, by decide⟩
/-- R75 and V43-3: CAL_PASS 17 is CAL_STEP 17 with its password, which answers false -/
theorem test_calPass_17 :
    decode (.asm (.calPass 17 0)) = .ok (.calPass 17 0)
    ∧ ∃ t, exec (.calPass 17 0) base = .next t ∧ t.responses = [.ok false] :=
  ⟨rfl, _, rfl, by decide⟩

/-! ### Host commands and resets -/

/-- V46-1, and R215's example -/
theorem test_getState :
    let s := inState .c none (driving 216 true (baseAt 65000))
    ∃ t, exec .getState (s.withSm { s.arch.sm with chargingStart := some 5000 }) = .next t
      ∧ t.responses = [.state 2 216 true 60000 0 false] := ⟨_, rfl, by decide⟩
/-- V46-5 and V46-6 -/
theorem test_setUserCalibration :
    (setUserCalibration P0 0xCAFE true (someParams 1) base).arch.user = ⟨true, someParams 1⟩
    ∧ (setUserCalibration P0 0xCAFE true (someParams 0) base)
      = base.respond (.ok false)
    ∧ (setUserCalibration P0 0xCAFF true (someParams 1) base)
      = base.respond (.ok false) := by decide
/-- R194: 900 ohm -/
theorem test_getPpCurrent : ppCurrent Config.params 900 = 13000 ∧ ppCurrent P0 799 = 20000 := by
  decide
/-- V46-9 and V46-10 -/
theorem test_notifications :
    (∃ t, exec (.setMaxCurrent 16000) base = .next t ∧ t.trace = [.arbSetMax 16000])
    ∧ ∃ t, exec .stopCharging base = .next t ∧ t.trace = [.arbButton .stop]
      ∧ t.arch.sm.buttonPressed = true := ⟨⟨_, rfl, by decide⟩, _, rfl, by decide, by decide⟩
/-- V60-3: a page with a good magic field and a zero divisor loads the defaults -/
theorem test_resetPowerOn_bad_page :
    let s := { base with pages := { base.pages with factory := some ⟨0x12345678, someParams 0⟩ } }
    (resetPowerOn P0 s).arch.factory = defaultParams P0
    ∧ (resetPowerOn P0 s).trace = [.pwmSet 1000, .relaySet false, .lockRequest false] :=
  ⟨by decide, by decide⟩
/-- V70-2 -/
theorem test_resetSupervising :
    let t := resetSupervising P0 (driving 216 true (inState .c none (baseAt 5000)))
    t.arch.sm.state = .ef ∧ t.arch.sm.lastStateChange = 5000 ∧ t.arch.out.duty = 1000
    ∧ t.trace = [.pwmSet 1000, .relaySet false, .lockRequest false] :=
  ⟨by decide, by decide, by decide, by decide⟩
/-- R62: a word with `NOP = 0b00` leaves the chip unchanged; a valid word is taken -/
theorem test_chip :
    (spiWrite16 0xC309 base).chip = base.chip ∧ (spiWrite16 0xC30B base).chip = ⟨0xC30B, .single⟩ := by
  decide
/-- V30-2: a sample word's sign bit -/
theorem test_sample_sign : (sampleCode 0xFFFF).toInt = -1 ∧ (sampleCode 0x8000).toInt = -32768 := by
  decide
/-- S6 -/
theorem test_password : passwordOf 5 = 0x0BB03205 ∧ passwordOf 16 = 0x0BB03210 := by decide
/-- R75: a starred ADC_WAIT_DRDY that is not ready goes back into the schedule -/
theorem test_star_repeats :
    (requeue ⟨encode .adcWaitDrdy, none, true, .conversion⟩ base base).queue
      = [⟨encode .adcWaitDrdy, none, true, .conversion⟩] := by decide
/-- R92: a supervising reset ends the conversion of a SAMPLE, a tick does not -/
theorem test_reset_ends_sample :
    keptAfter .supervisingReset (sampleSlots ++ [sessionPart 0 5]) = [sessionPart 0 5]
    ∧ keptAfter .tick sampleSlots = sampleSlots := by decide
/-- R62: a single-shot word at 860 SPS, which the builder never makes, still reaches the chip; and
V30-4's counterpart on the internal port, an opcode in no row, is dropped -/
theorem test_refused_codes :
    (rejected (.spiOut [0xC3, 0xEB]) base).chip = ⟨0xC3EB, .single⟩
    ∧ rejected (.step [0x87] .none) base = base := by decide

/-! ### Witnesses: for every statement with hypotheses, a state and operands that meet them -/

theorem witness_EncodedOperationsDecode :
    (Instr.calPassword 0).wellFormed = true ∧ (Instr.calPass 16 5).wellFormed = true
    ∧ (Instr.setUserCalibration 7 true (someParams 1)).wellFormed = true := by decide

theorem witness_AcceptedCodesReencode :
    decode (.host [0x30, 0x02]) = .ok (.getCalibration .effective)
    ∧ decode (.step [0x88] { CallArgs.none with duty := 9 }) = .ok .tick
    ∧ decode (.spiOut [0xC3, 0x0B]) = .ok (.ads1118CfgNormal 4 1)
    ∧ decode (.spiIn [0x80, 0x00]) = .ok (.ads1118Sample 0x8000)
    ∧ decode (.password [0x10, 0x32, 0xB0, 0x0B]) = .ok (.calPassword 16)
    ∧ decode (.asm .sample) = .ok .sample := by decide

theorem witness_HostFramesRefusedExactly :
    Spec.frameRefused [] ∧ Spec.frameRefused [0x06] ∧ Spec.frameRefused [0x88]
    ∧ Spec.frameRefused [0x11, 0x00] ∧ Spec.frameRefused [0x30, 0x03]
    ∧ Spec.frameRefused ([0x31, 0, 0, 0, 0, 0x02] ++ List.replicate 36 0)
    ∧ ¬ Spec.frameRefused [0x30, 0x02]
    ∧ ∃ (s : State) (slot : Slot), s.queue = [slot] ∧ gapTurn slot.part s.draws = none
      ∧ slot.code = .host [0x06] := by
  refine ⟨trivial, ?_, ?_, ?_, ?_, ?_, ?_,
    { base with queue := [⟨.host [0x06], none, false, .whole⟩] }, _, rfl, rfl, rfl⟩ <;>
    simp [Spec.frameRefused, Spec.requestBytes]

theorem witness_ConfigWordBuilderFields :
    P0.muxCp = 0b100 ∧ P0.muxPp = 0b101 ∧ P0.pga = 0b001 := by decide

theorem witness_PasswordOfSessionStep :
    (0 ≤ 16 ∧ 16 ≤ 16) ∧ (16 < 17 ∧ 17 < 32) ∧ (16 < 31 ∧ 31 < 32)
    ∧ (0 : U32) ≠ Spec.sessionPassword 16 := by decide

/-- Each clause: an operation that is not starred, a starred one that completes, one that faults, a
refused word to the ADC and another refused code. -/
theorem witness_StepRunsDecodedOperation :
    (decode (encode .getState) = .ok .getState
      ∧ (placing .getState false base).queue = [⟨encode .getState, none, false, .whole⟩]
      ∧ gapTurn .whole base.draws = none) ∧
    (∃ t, (placing .adcWaitDrdy true base).queue = [⟨encode .adcWaitDrdy, none, true, .whole⟩]
      ∧ exec .adcWaitDrdy (inPhaseOf .waitDrdy base) = .next t) ∧
    (∃ f, exec .adcRead base = .fault f) ∧
    (∀ i : Instr, decode (.spiOut [0xC3, 0x0A]) ≠ .ok i) ∧
    (∀ i : Instr, decode (.step [0x87] .none) ≠ .ok i)
    ∧ ∀ hi lo : Byte, Code.step [0x87] .none ≠ .spiOut [hi, lo] :=
  ⟨⟨rfl, rfl, rfl⟩, ⟨_, rfl, rfl⟩, ⟨_, rfl⟩, nofun, nofun, nofun⟩

theorem witness_IdleStepRunsAnAgent :
    turnDue State.reset = some (Config.turn State.reset.draws) := rfl

theorem witness_TimeNeverGoesBackward :
    ∃ t, step (placing .getState false State.reset) = .next t := ⟨_, rfl⟩

/-- No ADC step. -/
abbrev NoAdcStep (i : Instr) : Prop :=
  i ≠ .adcConfigure ∧ i ≠ .adcDelay ∧ i ≠ .adcWaitDrdy ∧ i ≠ .adcRead

/-- What either branch gives, the choice gives. -/
theorem of_choice {c : Prop} [Decidable c] {a b : Except DecodeError Instr} {i : Instr} {P : Prop}
    (ha : a = .ok i → P) (hb : b = .ok i → P) (h : (if c then a else b) = .ok i) : P := by
  by_cases hc : c
  · exact ha (by rwa [if_pos hc] at h)
  · exact hb (by rwa [if_neg hc] at h)

theorem payload_no_adc_step (op : Byte) (pay : List Byte) (i : Instr)
    (h : decodeHostPayload op pay = .ok i) : NoAdcStep i := by
  revert h
  unfold decodeHostPayload
  iterate 10
    refine of_choice (fun h => ?_) ?_
    · injection h with h; subst h; exact ⟨nofun, nofun, nofun, nofun⟩
  refine of_choice (fun h => ?_) (of_choice (fun h => ?_) nofun)
  · cases hs : selectorOf (byteAt pay 0) <;> rw [hs] at h <;> cases h
    exact ⟨nofun, nofun, nofun, nofun⟩
  · cases hs : boolOf (byteAt pay 4) <;> rw [hs] at h <;> cases h
    exact ⟨nofun, nofun, nofun, nofun⟩

/-- A host frame never holds an ADC step. -/
theorem host_frame_no_adc_step (bytes : List Byte) (i : Instr) (h : decode (.host bytes) = .ok i) :
    NoAdcStep i := by
  cases bytes with
  | nil => cases h
  | cons op pay =>
    simp only [decode, decodeHost] at h
    split at h
    · cases h
    · split at h
      · exact payload_no_adc_step op pay i h
      · cases h

/-- The idle machine steps from the reset state, whichever agent's turn it is. -/
theorem witness_AgentStepsKeepSafe :
    idle State.reset ∧ Safe State.reset ∧ ∃ t, step State.reset = .next t := by
  refine ⟨rfl, ?_, ?_⟩
  · refine ⟨⟨?_, ?_⟩, by decide, by decide, by decide, by decide, ?_, ?_, ?_, ?_, by decide,
      by decide⟩
    all_goals simp [State.reset, Arch.atReset, windowOk, MovAvg.atReset, Config.Params.calAvgLen,
      Config.Params.calQueueLen, defaultParams]
  · have hc : (nextSlot State.reset).code
        = codeOfTurn .configure (Config.turn State.reset.draws) := rfl
    unfold step
    rw [hc]
    cases Config.turn State.reset.draws with
    | adc => exact ⟨_, rfl⟩
    | tick => exact ⟨_, rfl⟩
    | supervisingReset => exact ⟨_, rfl⟩
    | host frame =>
      simp only [codeOfTurn]
      cases hd : decode (.host frame) with
      | error why => exact ⟨_, rfl⟩
      | ok i =>
        obtain ⟨h1, h2, h3, h4⟩ := host_frame_no_adc_step frame i hd
        cases i <;> first | exact ⟨_, rfl⟩ | contradiction

theorem witness_DivisorsStayNonzero :
    divisorsNonzero base ∧ ∃ t, step (placing .tick false base) = .next t :=
  ⟨⟨by decide, by decide⟩, _, rfl⟩

/-- Operations outside and inside the lists of the ownership rules complete. -/
theorem witness_FieldsHaveTheirWritersOnly :
    (∃ t, exec .getState base = .next t ∧ Instr.getState.mnemonic = "GET_STATE") ∧
    (∃ t, exec .adcRead (inPhaseOf .read base) = .next t) ∧
    ∃ t, exec .startCharging base = .next t ∧ Instr.startCharging.mnemonic = "START_CHARGING" :=
  ⟨⟨_, rfl, rfl⟩, ⟨_, rfl⟩, _, rfl, rfl⟩

theorem witness_OutsideEffectsAreRecorded :
    ∃ t, exec (.setUserCalibration Config.params.userCalPassword true (someParams 1)) base = .next t
      ∧ t.pages.user ≠ base.pages.user := by
  refine ⟨setUserCalibration Config.params Config.params.userCalPassword true (someParams 1) base,
    rfl, ?_⟩
  have h : userCalAccepted Config.params Config.params.userCalPassword (someParams 1) = true := by
    simp [userCalAccepted, someParams]
  unfold setUserCalibration
  rw [if_pos h]
  exact nofun

theorem witness_OnlyTheGuardDrivesOutputs :
    ∃ t, exec (.setState .a 0) base = .next t ∧ (Instr.setState .a 0).mnemonic ∉
      ["SET_OUTPUT", "TICK", "CAL_STEP", "CAL_PASS", "CAL_ABORT", "RESET_POWER_ON",
        "RESET_SUPERVISING"] := ⟨_, rfl, by decide⟩

theorem witness_RelayEngagesOnlyWithLockClosed :
    ∃ t, exec (.setOutput 1000 true) (locked .closed base) = .next t
      ∧ t.trace = base.trace ++ [.ccInvalidate 5, .relaySet true]
      ∧ t.arch.out.contactor = true := ⟨_, rfl, by decide, by decide⟩

/-- A timer that runs on, a timer that A clears, and a timer that starts. -/
theorem witness_ChargingTimerRunsUntilA :
    let timed (s : State) : State := s.withSm { s.arch.sm with chargingStart := some 5 }
    (∃ t, exec (.setState .b 9) (timed (inState .c none base)) = .next t
      ∧ t.arch.sm.chargingStart = some 5) ∧
    (∃ t, exec (.setState .a 9) (timed (inState .c none base)) = .next t
      ∧ t.arch.sm.chargingStart = none) ∧
    ∃ t, exec (.setState .c 9) (inState .b none base) = .next t
      ∧ t.arch.sm.chargingStart = some 9 :=
  ⟨⟨_, rfl, by decide⟩, ⟨_, rfl, by decide⟩, _, rfl, by decide⟩

/-- A tick that enters C, and a tick that leaves EF. -/
theorem witness_HoldOffKeepsTicksOutOfC :
    (∃ t, exec .tick (limited 6000 (reading 1000 (inState .b none base))) = .next t
      ∧ t.arch.sm.state = .c) ∧
    ∃ t, exec .tick (reading 65535 base) = .next t
      ∧ base.arch.sm.state = .ef ∧ t.arch.sm.state = .a :=
  ⟨⟨_, rfl, by decide⟩, _, rfl, by decide, by decide⟩

theorem witness_GetCalibrationAnswers :
    let s := base.withUser ⟨true, someParams 1⟩
    2 < (3 : Byte).toNat ∧ 2 < (255 : Byte).toNat ∧ (s.arch.user.active = true ∧ s.arch.cal.step = 0)
    ∧ base.arch.user.active = false ∧ (s.withCalStep 1).arch.cal.step ≠ 0 := by decide

theorem witness_SetUserCalibrationWritesOrRejects :
    (someParams 1).div ≠ 0 ∧ (someParams 0).div = 0 ∧ (someParams (-32768)).div ≠ 0
    ∧ Config.params.userCalPassword + 1 ≠ Config.params.userCalPassword :=
  ⟨by decide, by decide, by decide, by simp⟩

theorem witness_GetStateAnswers :
    Instr.resetPowerOn ∈ [Instr.resetPowerOn, .resetSupervising]
    ∧ Instr.resetSupervising ∈ [Instr.resetPowerOn, .resetSupervising] := by decide

theorem witness_UserCalibrationRoundTrip : (someParams 1).div ≠ 0 := by decide

/-- One witness for each ground of rejection, of CAL_STEP and of CAL_ABORT. -/
theorem witness_RejectedSessionCommandsChangeNothing :
    let s := sessionReady 12000 base
    (1 : U8) ≠ s.arch.cal.step ∧ (0x0BB03201 : U32) ≠ Spec.sessionPassword (0 : U8).toNat
    ∧ (reading 0xFFFE s).arch.cp.resistance ≠ 0xFFFF ∧ (sessionReady 0 base).arch.cp.voltage = 0
    ∧ s.arch.cal.step = 0
    ∧ (0x0BB03200 : U32) ≠ Spec.sessionPassword (s.withCalStep 5).arch.cal.step.toNat := by decide

theorem witness_SessionStepZeroCaptures :
    let s := sessionReady 1 base
    s.arch.cal.step = 0 ∧ s.arch.cp.resistance = 0xFFFF ∧ s.arch.cp.voltage ≠ 0 := by decide

theorem witness_SessionStepsOneToFifteenCapture :
    (base.withCalStep 1).arch.cal.step = Spec.stepByte 1
    ∧ (base.withCalStep 15).arch.cal.step = Spec.stepByte 15 := by decide

theorem witness_SessionStepSixteenPersists : (base.withCalStep 16).arch.cal.step = 16 := by decide

theorem witness_SessionAbortRestores : (base.withCalStep 16).arch.cal.step ≠ 0 := by decide

theorem witness_CalPassPerformsTheStep :
    (sessionReady 1 base).arch.cal.step = Spec.stepByte 0
    ∧ (sessionReady 1 base).arch.cp.resistance = 0xFFFF ∧ (sessionReady 1 base).arch.cp.voltage ≠ 0
    ∧ (base.withCalStep 16).arch.cal.step = Spec.stepByte 16
    ∧ 16 < (17 : U8).toNat ∧ 16 < (255 : U8).toNat := by decide

/-- The seventeen steps placed in order, and CAL_SEQUENCE placed. -/
theorem witness_FactorySessionCompletes :
    let s := sessionReady 12000 base
    let steps : List Slot := (List.range 17).map fun n =>
      ⟨encode (.calPass (Spec.stepByte n) (if n = 0 then 12000 else if n = 16 then -50 else 0)), none,
        false, .whole⟩
    steps.map (fun x => (x.code, x.star, x.part)) = (List.range 17).map (fun n =>
      (encode (.calPass (Spec.stepByte n) (if n = 0 then 12000 else if n = 16 then -50 else 0)), false,
        Part.whole)) ∧
    (placing (.calSequence 12000 (-50)) false s).queue
      = [⟨encode (.calSequence 12000 (-50)), none, false, .whole⟩]
    ∧ s.arch.cal.step = 0 ∧ s.arch.cp.resistance = 0xFFFF ∧ s.arch.cp.voltage ≠ 0 := by decide

theorem witness_AdcConfigureSendsTheWord : base.arch.adc.phase = .configure := by decide

theorem witness_AdcDelayWaitsThenSelects : (inPhaseOf .delay base).arch.adc.phase = .delay := by
  decide

/-- Ready; not ready at 199 ms; not ready at 200 ms, with a word of the typed builder. -/
theorem witness_AdcWaitPollsAndRetries :
    let s (level : Bool) (now : U32) : State :=
      let b := (baseAt now).withAdc
        ⟨.waitDrdy, .cp, .normal, cfgWord Config.params .cp .normal, 0⟩
      { b with env := { b.env with inputs := { b.env.inputs with drdyLine := level } } }
    (s Config.params.drdyReadyLevel 0).env.inputs.drdyLine = Config.params.drdyReadyLevel
    ∧ ¬ (s (!Config.params.drdyReadyLevel) 0).env.inputs.drdyLine = Config.params.drdyReadyLevel
    ∧ ((199 : U32) - 0).toNat < 200 ∧ 200 ≤ ((200 : U32) - 0).toNat
    ∧ (s true 200).arch.adc.phase = .waitDrdy
    ∧ (s true 200).arch.adc.cfg = cfgWord Config.params .cp .normal := by
  refine ⟨rfl, ?_, by decide, by decide, rfl, rfl⟩
  simp

theorem witness_AdcReadProcessesTheSample :
    let s := inPhaseOf .read base
    let pp := s.withAdc { s.arch.adc with channel := .pp }
    let both := s.withArch { s.arch with
      cp := { s.arch.cp with invalid := 1 }, pp := { s.arch.pp with invalid := 4 } }
    s.arch.adc.phase = .read ∧ s.arch.adc.channel = .cp ∧ s.arch.cp.invalid = 0
    ∧ pp.arch.adc.channel = .pp ∧ pp.arch.pp.invalid = 0
    ∧ both.arch.cp.invalid ≠ 0 ∧ both.arch.pp.invalid ≠ 0 := by decide

theorem witness_AdcStepsFaultInAnotherPhase :
    (Instr.adcConfigure, AdcPhase.configure) ∈ [(Instr.adcConfigure, AdcPhase.configure),
      (.adcDelay, .delay), (.adcWaitDrdy, .waitDrdy), (.adcRead, .read)]
    ∧ (inPhaseOf .read base).arch.adc.phase ≠ .configure ∧ base.arch.adc.phase ≠ .delay
    ∧ base.arch.adc.phase ≠ .waitDrdy ∧ base.arch.adc.phase ≠ .read := by decide

theorem witness_UpdateCpPublishes :
    divisorsNonzero base ∧ (driving 0 false base).arch.out.duty = 0
    ∧ base.arch.out.duty = 1000 ∧ (driving 999 false base).arch.out.duty ≠ 0 :=
  ⟨⟨by decide, by decide⟩, by decide, by decide, by decide⟩

/-- Enabled exactly at 500 ms, frozen at 499 ms. -/
theorem witness_CcUpdateRunsOnlyEnabled :
    let s (t : U32) := inState .a none (baseAt t)
    divisorsNonzero (s 500) ∧ (s 500).arch.sm.state = .a
    ∧ 500 ≤ ((s 500).env.now - (s 500).arch.sm.lastStateChange).toNat
    ∧ ¬ 500 ≤ ((s 499).env.now - (s 499).arch.sm.lastStateChange).toNat
    ∧ (s 500).env.inputs.boxDisabled = false ∧ (s 500).arch.cal.step = 0
    ∧ (s 500).arch.out.duty = 1000 :=
  ⟨⟨by decide, by decide⟩, by decide, by decide, by decide, by decide, by decide, by decide⟩

theorem witness_MovingAverageOfLastInputs :
    (maUpdate (MovAvg.atReset 4) 4 7).1.init = true ∧ 0 < 1 ∧ (MovAvg.atReset 1).init = false ∧ (MovAvg.atReset 4).init = false := by decide

theorem witness_RankCodeIsTwoThirdsRank : ([5] : List I16) ≠ [] := by decide

theorem witness_CpVoltageMap :
    ((-32768 : Int) ≤ -15120 ∧ (-15120 : Int) ≤ 32767) ∧ (-32768 : Int) ≤ -15121
    ∧ (32767 : Int) ≤ 32767 := by decide

/-- The clauses at their boundaries: `d = 650`, `vmax = 12000`, `vref = 9000` or unusable. -/
theorem witness_CpResistanceSolvesTheDivider :
    (0 : Int) ≤ 2700 ∧ (12000 : Int) - 1000 ≤ 11000 ∧ ((650 : Int) ≤ 650 ∧ (12000 : Int) ≤ 12000)
    ∧ ((10999 : Int) < 12000 - 1000 ∧ (650 : Int) < 9000 ∧ (9000 : Int) < 12000
      ∧ (650 : Int) ≤ 650 ∧ (650 : Int) < 651)
    ∧ ((2700 : Int) ≤ 0xFFFF ∧ (9000 : Int) < 12000 - 1000) := by decide

theorem witness_PpResistanceFormula : (4849 : Int) < 4850 := by decide

theorem witness_TickDefers :
    let s := base.withArch { base.arch with cp := { base.arch.cp with invalid := 1 } }
    (base.withCalStep 1).arch.cal.step ≠ 0
    ∧ s.env.inputs.ccError = false ∧ s.env.inputs.jumperUnconfigured = false
    ∧ s.arch.cp.invalid ≠ 0 := by decide

theorem witness_TickForcesEfOnAFault :
    let s (cc jumper : Bool) : State := { base with env := { base.env with
      inputs := { base.env.inputs with ccError := cc, jumperUnconfigured := jumper } } }
    (s true true).arch.cal.step = 0 ∧ (s true true).env.inputs.ccError = true
    ∧ (s false true).env.inputs.jumperUnconfigured = true := by decide

/-- PWM off; relay on with PWM on; PWM on, relay off and 10000 ohm. -/
theorem witness_TickClassifiesAndActuates :
    base.arch.cal.step = 0 ∧ base.env.inputs.ccError = false
    ∧ base.env.inputs.jumperUnconfigured = false ∧ base.arch.cp.invalid = 0
    ∧ base.arch.out.duty = 1000 ∧ (driving 216 true base).arch.out.contactor = true
    ∧ (reading 10000 (driving 216 false base)).arch.cp.resistance.toNat ≤ 10000 := by decide

/-- At 10001, 30000 and 30001 ohm, with no hold, and with a hold of 2499 and of 2500 ms. -/
theorem witness_TickId3HoldsBeforeA :
    let s (r : U32) (g : Option U32) (t : U32) : State :=
      let b := reading r (driving 216 false (inState .b none (baseAt t)))
      b.withSm { b.arch.sm with id3GuardTime := g }
    (∃ t, exec .tick (s 10001 none 0) = .next t) ∧ (s 10001 none 0).arch.cp.resistance.toNat ≤ 30000
    ∧ 10000 < (s 10001 none 0).arch.cp.resistance.toNat
    ∧ (s 30000 none 0).arch.cp.resistance.toNat ≤ 30000
    ∧ 30000 < (s 30001 none 0).arch.cp.resistance.toNat ∧ (s 30001 none 0).arch.sm.id3GuardTime = none
    ∧ (s 30001 (some 0) 2500).arch.sm.id3GuardTime = some 0
    ∧ 2500 ≤ ((s 30001 (some 0) 2500).env.now - 0).toNat
    ∧ ((s 30001 (some 0) 2499).env.now - 0).toNat < 2500
    ∧ (s 30001 none 0).arch.cal.step = 0 ∧ (s 30001 none 0).env.inputs.ccError = false
    ∧ (s 30001 none 0).env.inputs.jumperUnconfigured = false ∧ (s 30001 none 0).arch.cp.invalid = 0
    ∧ (s 30001 none 0).arch.out.duty ≠ 1000 ∧ (s 30001 none 0).arch.out.contactor = false :=
  ⟨⟨_, rfl⟩, by decide⟩

/-- Every band at its boundary, with the hold-off running and not. -/
theorem witness_TickReachesTheBandOutputs :
    let s (r : U32) (e : Option U32) : State := limited 6000 (reading r (inState .b e (baseAt 30000)))
    (s 10001 none).arch.cal.step = 0 ∧ (s 10001 none).env.inputs.ccError = false
    ∧ (s 10001 none).env.inputs.jumperUnconfigured = false ∧ (s 10001 none).arch.cp.invalid = 0
    ∧ (s 10001 none).arch.out.duty = 1000
    ∧ 10000 < (s 10001 none).arch.cp.resistance.toNat
    ∧ (1790 < (s 10000 none).arch.cp.resistance.toNat
      ∧ (s 10000 none).arch.cp.resistance.toNat ≤ 10000)
    ∧ (560 < (s 1790 none).arch.cp.resistance.toNat
      ∧ (s 1790 none).arch.cp.resistance.toNat ≤ 1790
      ∧ 0 < (s 1790 none).env.inputs.effMaxMa.toNat)
    ∧ (150 < (s 560 none).arch.cp.resistance.toNat ∧ (s 560 none).arch.cp.resistance.toNat ≤ 560)
    ∧ (s 150 none).arch.cp.resistance.toNat ≤ 150
    ∧ (s 1790 (some 1)).arch.sm.lastErrorTime = some 1
    ∧ ((s 1790 (some 1)).env.now - 1).toNat < 30000
    ∧ ¬ ((s 1790 (some 0)).env.now - 0).toNat < 30000 := by decide

/-- Each clause: same state; A, B, C entered; C refused from A and in B; D and EF. -/
theorem witness_SetStateClosedForm :
    (ChargeState.ef = base.arch.sm.state)
    ∧ (ChargeState.a ≠ base.arch.sm.state ∧ ChargeState.b ≠ base.arch.sm.state
      ∧ ChargeState.c ≠ base.arch.sm.state ∧ ChargeState.d ≠ base.arch.sm.state)
    ∧ ((inState .a (some 1000) base).arch.sm.lastErrorTime = some 1000
      ∧ ((30999 : U32) - 1000).toNat < 30000 ∧ ¬ ((31000 : U32) - 1000).toNat < 30000)
    ∧ (inState .a (some 1000) base).arch.sm.state ≠ .b
    ∧ (inState .b (some 1000) base).arch.sm.state = .b := by decide

theorem witness_DutyForCurrentFormula :
    (0 < 1 ∧ 1 ≤ 51000) ∧ 51000 ≤ 51000 ∧ 51000 < 51001 := by decide

theorem witness_AdcWordsReachTheChip :
    (0xC309 : U16).extractLsb' 1 2 ≠ 0b01#2 ∧ (0xC30F : U16).extractLsb' 1 2 ≠ 0b01#2 := by decide

end Sys2Proof.Tests
end

section
/-!
SUPPORT. What one step of the machine can do, from the meanings up: when `exec` completes, which
operations leave the schedule alone, what a host frame can hold, and what a step is once the operation
it runs is known. After these, the statements on the step and on the schedule.
-/

namespace Sys2Proof.Proofs

open Sys2Proof Sys2Proof.Machine

/-! ### How `exec` ends -/

/-- What the ADC task's step does in each phase, where it is enabled (40_adc_transport.md rules R95 to
R99). -/
def adcTaskBody : AdcPhase → State → State
  | .configure => adcConfigure Config.params
  | .delay => adcDelay Config.params
  | .waitDrdy => adcWaitDrdy Config.params
  | .read => adcRead Config.params

theorem exec_adcStepOf (p : AdcPhase) (s : State) :
    exec (adcStepOf p) s = inPhase p s (adcTaskBody p s) := by
  cases p <;> rfl

/-- In its own phase the ADC task's step completes. -/
theorem exec_adcStepOf_enabled (s : State) :
    exec (adcStepOf s.arch.adc.phase) s = .next (adcTaskBody s.arch.adc.phase s) := by
  rw [exec_adcStepOf, inPhase, if_pos rfl]

/-- Only an ADC step can do anything but complete. -/
theorem exec_adcStep_or_next (i : Instr) (s : State) :
    (∃ p, i = adcStepOf p) ∨ ∃ t, exec i s = .next t := by
  cases i with
  | adcConfigure => exact .inl ⟨.configure, rfl⟩
  | adcDelay => exact .inl ⟨.delay, rfl⟩
  | adcWaitDrdy => exact .inl ⟨.waitDrdy, rfl⟩
  | adcRead => exact .inl ⟨.read, rfl⟩
  | _ => exact .inr ⟨_, rfl⟩

/-- Every operation completes, but an ADC step in another phase, which faults. -/
theorem exec_cases (i : Instr) (s : State) :
    (∃ t, exec i s = .next t) ∨
      ∃ p, i = adcStepOf p ∧ s.arch.adc.phase ≠ p
        ∧ exec i s = .fault (.stepNotEnabled s.arch.adc.phase) := by
  rcases exec_adcStep_or_next i s with ⟨p, rfl⟩ | hnext
  · by_cases hp : s.arch.adc.phase = p
    · subst hp
      exact .inl ⟨_, exec_adcStepOf_enabled s⟩
    · exact .inr ⟨p, rfl, hp, by rw [exec_adcStepOf, inPhase, if_neg hp]⟩
  · exact .inl hnext

/-- No operation refuses. -/
theorem exec_ne_refused (i : Instr) (s : State) (r : Refusal) : exec i s ≠ .refused r := by
  rcases exec_cases i s with ⟨t, he⟩ | ⟨p, _, _, he⟩ <;> rw [he] <;> exact nofun

/-! ### Which operations leave the schedule alone -/

@[simp] theorem spiWrite16_queue (w : U16) (s : State) : (spiWrite16 w s).queue = s.queue := by
  obtain ⟨c, d, h⟩ := spiWrite16_frame w s
  rw [h]

@[simp] theorem setState_queue (new : ChargeState) (t : U32) (s : State) :
    (setState new t s).queue = s.queue := by
  obtain ⟨sm, ev, h, _⟩ := setState_frame new t s
  rw [h]

@[simp] theorem actuate_queue (st : ChargeState) (ma : Nat) (s : State) :
    (actuate st ma s).queue = s.queue := by
  rw [actuate_eq, setOutput_queue]

@[simp] theorem tick_queue (s : State) : (tick s).queue = s.queue := by
  rcases tick_cases s with h | ⟨new, g, ev, u, rfl, _, h⟩
  · rw [h]
  · rw [h, actuate_queue, setState_queue]

@[simp] theorem sessionStep_queue (P : Params) (step : U8) (value : I16) (s : State) :
    (sessionStep P step value s).queue = s.queue := by
  unfold sessionStep
  split_ifs
  · rfl
  · simp [sessionStep1]
  · simp [sessionStepTable]
  · simp [sessionStep16, persistSaveFactory]

@[simp] theorem calStep_queue (P : Params) (step : U8) (password : U32) (value : I16) (s : State) :
    (calStep P step password value s).queue = s.queue := by
  unfold calStep
  split <;> simp

@[simp] theorem calAbort_queue (P : Params) (password : U32) (s : State) :
    (calAbort P password s).queue = s.queue := by
  unfold calAbort
  split <;> simp

@[simp] theorem setUserCalibration_queue (P : Params) (password : U32) (active : Bool) (p : CalParams)
    (s : State) : (setUserCalibration P password active p s).queue = s.queue := by
  unfold setUserCalibration
  split <;> rfl

@[simp] theorem adcConfigure_queue (P : Params) (s : State) : (adcConfigure P s).queue = s.queue := by
  simp [adcConfigure]

@[simp] theorem adcDelay_queue (P : Params) (s : State) : (adcDelay P s).queue = s.queue := by
  unfold adcDelay
  split <;> rfl

@[simp] theorem timeoutRetry_queue (s : State) : (timeoutRetry s).queue = s.queue := by
  simp [timeoutRetry]

@[simp] theorem adcWaitDrdy_queue (P : Params) (s : State) : (adcWaitDrdy P s).queue = s.queue := by
  unfold adcWaitDrdy
  split_ifs <;> simp

@[simp] theorem adcTaskBody_queue (p : AdcPhase) (s : State) : (adcTaskBody p s).queue = s.queue := by
  cases p with
  | configure => exact adcConfigure_queue _ s
  | delay => exact adcDelay_queue _ s
  | waitDrdy => exact adcWaitDrdy_queue _ s
  | read => rfl

/-- An ADC step that completes was enabled, and did what its phase does. -/
theorem adcStepOf_next {p : AdcPhase} {s t : State} (h : exec (adcStepOf p) s = .next t) :
    s.arch.adc.phase = p ∧ t = adcTaskBody p s := by
  rw [exec_adcStepOf, inPhase] at h
  split at h
  · exact ⟨‹_›, (Host.Outcome.next.inj h).symm⟩
  · cases h

/-- Only CAL_SEQUENCE and SAMPLE place operations. -/
theorem exec_queue {i : Instr} {s t : State} (h : exec i s = .next t)
    (hseq : ∀ v0 v16, i ≠ .calSequence v0 v16) (hsample : i ≠ .sample) : t.queue = s.queue := by
  have adcStep (p : AdcPhase) (h : exec (adcStepOf p) s = .next t) : t.queue = s.queue := by
    rw [(adcStepOf_next h).2, adcTaskBody_queue]
  cases i with
  | adcConfigure => exact adcStep .configure h
  | adcDelay => exact adcStep .delay h
  | adcWaitDrdy => exact adcStep .waitDrdy h
  | adcRead => exact adcStep .read h
  | calSequence v0 v16 => exact absurd rfl (hseq v0 v16)
  | sample => exact absurd rfl hsample
  | calStep | calPass => cases h; exact calStep_queue ..
  | calAbort => cases h; exact calAbort_queue ..
  | setUserCalibration => cases h; exact setUserCalibration_queue ..
  | tick => cases h; exact tick_queue s
  | setState => cases h; exact setState_queue ..
  | setOutput => cases h; exact setOutput_queue ..
  | ads1118CfgNormal | ads1118CfgFast | ads1118CfgTemp => cases h; exact spiWrite16_queue ..
  | _ => cases h; rfl

/-! ### What a host frame can hold -/

/-- The operations with a row in the table of 30_encoding.md rule R68. -/
def isHostCommand : Instr → Bool
  | .getState | .getAdcValues | .getVoltages | .getResistances | .getPpCurrent | .setMaxCurrent _
  | .startCharging | .stopCharging | .calStep _ _ _ | .calAbort _ | .getCalibration _
  | .setUserCalibration _ _ _ => true
  | _ => false

/-- What a decoder's answer accepts, if anything, is a host command. -/
def AcceptsHostCommand (answer : Except DecodeError Instr) : Prop :=
  ∀ i, answer = .ok i → isHostCommand i = true

theorem acceptsHostCommand_ok {i : Instr} (hi : isHostCommand i = true) :
    AcceptsHostCommand (.ok i) := by
  rintro _ ⟨⟩
  exact hi

theorem acceptsHostCommand_map {α : Type} {f : α → Instr} (hf : ∀ a, isHostCommand (f a) = true)
    (x : Except DecodeError α) : AcceptsHostCommand (x.map f) := by
  cases x with
  | error why => exact nofun
  | ok a => exact acceptsHostCommand_ok (hf a)

/-- Every branch of the table of R68 is a host command or a refusal. -/
theorem acceptsHostCommand_decodeHostPayload (op : Byte) (pay : List Byte) :
    AcceptsHostCommand (decodeHostPayload op pay) := by
  unfold decodeHostPayload
  iterate 10 refine iteInduction (fun _ => acceptsHostCommand_ok rfl) fun _ => ?_
  refine iteInduction (fun _ => acceptsHostCommand_map (fun _ => rfl) _) fun _ => ?_
  exact iteInduction (fun _ => acceptsHostCommand_map (fun _ => rfl) _) fun _ => nofun

/-- A host frame holds a host command or is refused. -/
theorem isHostCommand_of_decode {bytes : List Byte} {i : Instr} (h : decode (.host bytes) = .ok i) :
    isHostCommand i = true := by
  cases bytes with
  | nil => cases h
  | cons op pay =>
    simp only [decode, decodeHost] at h
    split at h
    · cases h
    · split at h
      · exact acceptsHostCommand_decodeHostPayload op pay i h
      · cases h

/-- A host command completes and places nothing. -/
theorem exec_hostCommand {i : Instr} (hi : isHostCommand i = true) (s : State) :
    ∃ t, exec i s = .next t ∧ t.queue = s.queue := by
  rcases exec_cases i s with ⟨t, he⟩ | ⟨p, rfl, _⟩
  · refine ⟨t, he, exec_queue he ?_ ?_⟩
    · rintro v0 v16 rfl
      cases hi
    · rintro rfl
      cases hi
  · cases p <;> cases hi

/-! ### What a step is, once the operation it runs is known -/

theorem decode_codeOfTurn_adc (p : AdcPhase) : decode (codeOfTurn p .adc) = .ok (adcStepOf p) := by
  cases p <;> rfl

@[simp] theorem requeue_of_not_star {slot : Slot} (h : slot.star = false) (before after : State) :
    requeue slot before after = after := by
  simp [requeue, h]

theorem step_of_exec_next {s t : State} {i : Instr} (hd : decode (nextSlot s).code = .ok i)
    (he : exec i (fetched s) = .next t) : step s = .next (requeue (nextSlot s) (fetched s) t) := by
  simp only [step, hd, he]

theorem step_of_exec_fault {s : State} {i : Instr} {f : Fault}
    (hd : decode (nextSlot s).code = .ok i) (he : exec i (fetched s) = .fault f) :
    step s = .fault f := by
  simp only [step, hd, he]

/-- An operation that is not starred: its step is its meaning. -/
theorem step_of_not_star {s : State} {i : Instr} (hd : decode (nextSlot s).code = .ok i)
    (hstar : (nextSlot s).star = false) : step s = exec i (fetched s) := by
  rcases exec_cases i (fetched s) with ⟨t, he⟩ | ⟨p, _, _, he⟩
  · rw [step_of_exec_next hd he, requeue_of_not_star hstar, he]
  · rw [step_of_exec_fault hd he, he]

theorem step_of_rejected {s : State} (hd : ∀ i, decode (nextSlot s).code ≠ .ok i) :
    step s = .next (rejected (nextSlot s).code (fetched s)) := by
  unfold step
  cases h : decode (nextSlot s).code with
  | ok i => exact absurd h (hd i)
  | error why => rfl

theorem step_ne_refused (s : State) (r : Refusal) : step s ≠ .refused r := by
  cases hd : decode (nextSlot s).code with
  | error why =>
    rw [step_of_rejected (by simp [hd])]
    exact nofun
  | ok i =>
    rcases exec_cases i (fetched s) with ⟨t, he⟩ | ⟨p, _, _, he⟩
    · rw [step_of_exec_next hd he]
      exact nofun
    · rw [step_of_exec_fault hd he]
      exact nofun

/-- A refused code other than a 16-bit word to the ADC is dropped. -/
theorem rejected_of_ne_spiOut {c : Code} (h : ∀ hi lo : Byte, c ≠ .spiOut [hi, lo]) (s : State) :
    rejected c s = s := by
  unfold rejected
  split
  · exact absurd rfl (h _ _)
  all_goals rfl

/-! ### The state a step runs in -/

/-- With no turn due, the head is taken off the schedule and ENV's answers are its own or free ones. -/
theorem fetched_of_queue {s : State} {slot : Slot} {rest : List Slot} (h : s.queue = slot :: rest)
    (hg : gapTurn slot.part s.draws = none) :
    fetched s = takeAnswers (slot.answers.getD (Config.answers s.draws)) { s with queue := rest } := by
  rw [fetched, nextSlot, selected_of_queue h hg]

theorem nextSlot_of_turn {s : State} {turn : Turn} (h : turnDue s = some turn) :
    nextSlot s = turnSlot s.arch.adc.phase turn := by
  rw [nextSlot, selected_of_turn h]

/-- A turn runs with free answers of ENV, and what it keeps of the schedule behind it. -/
theorem fetched_of_turn {s : State} {turn : Turn} (h : turnDue s = some turn) :
    fetched s = takeAnswers (Config.answers s.draws) { s with queue := keptAfter turn s.queue } := by
  rw [fetched, nextSlot, selected_of_turn h]
  rfl

theorem keptAfter_eq (turn : Turn) (queue : List Slot) :
    keptAfter turn queue = if turn = .supervisingReset
      then queue.dropWhile (fun slot => slot.part = .conversion) else queue := by
  cases turn <;> rfl

/-- The turn before a part of an expansion, in one condition. -/
theorem gapTurn_eq (part : Part) (n : Nat) :
    gapTurn part n =
      if part = .whole ∨ (part = .conversion ∧ Config.gap n = some .adc) then none
      else Config.gap n := by
  cases part <;> simp [gapTurn]

/-! ### The agents' turns -/

/-- A turn whose code is accepted steps as its operation. -/
theorem step_of_turn {s : State} {turn : Turn} {i : Instr} (h : turnDue s = some turn)
    (hd : decode (codeOfTurn s.arch.adc.phase turn) = .ok i) : step s = exec i (fetched s) := by
  have hslot := nextSlot_of_turn h
  exact step_of_not_star (by rw [hslot]; exact hd) (by rw [hslot]; rfl)

/-- A host's frame that its decoder refuses is dropped. -/
theorem step_of_refused_frame {s : State} {frame : List Byte} (h : turnDue s = some (.host frame))
    (hd : ∀ i, decode (.host frame) ≠ .ok i) : step s = .next (fetched s) := by
  have hcode : (nextSlot s).code = .host frame := by rw [nextSlot_of_turn h]; rfl
  rw [step_of_rejected (by rwa [hcode]), hcode, rejected_of_ne_spiOut (by simp)]

/-- Where a turn's operation completes and places nothing, so does the step, and what the turn keeps of
the schedule stays. -/
theorem step_of_completing_turn {s : State} {turn : Turn} {i : Instr} (h : turnDue s = some turn)
    (hd : decode (codeOfTurn s.arch.adc.phase turn) = .ok i)
    (he : ∃ t, exec i (fetched s) = .next t ∧ t.queue = (fetched s).queue) :
    ∃ t, step s = .next t ∧ t.queue = keptAfter turn s.queue ∧ exec i (fetched s) = .next t := by
  obtain ⟨t, he, hq⟩ := he
  exact ⟨t, by rw [step_of_turn h hd, he], by rw [hq, fetched_of_turn h]; rfl, he⟩

/-! ### The expansions -/

theorem mem_calSequenceSlots {v0 v16 : I16} {x : Slot} (h : x ∈ calSequenceSlots v0 v16) :
    ∃ n v, x = sessionPart n v := by
  simp only [calSequenceSlots, List.cons_append, List.mem_cons, List.mem_append, List.mem_map,
    List.not_mem_nil, or_false] at h
  rcases h with rfl | ⟨k, _, rfl⟩ | rfl <;> exact ⟨_, _, rfl⟩

theorem mem_sampleSlots {x : Slot} (h : x ∈ sampleSlots) : ∃ i star, x = conversionPart i star := by
  simp only [sampleSlots, List.mem_cons, List.not_mem_nil, or_false] at h
  rcases h with rfl | rfl | rfl | rfl <;> exact ⟨_, _, rfl⟩

theorem decode_sessionPart (n : U8) (v : I16) : decode (sessionPart n v).code = .ok (.calPass n v) :=
  rfl

theorem calSequenceSlots_decode (v0 v16 : I16) :
    (calSequenceSlots v0 v16).map (fun x => decode x.code) =
      .ok (.calPass 0 v0)
        :: ((List.range 15).map fun k => .ok (.calPass (BitVec.ofNat 8 (k + 1)) 0))
        ++ [.ok (.calPass 16 v16)] := by
  simp only [calSequenceSlots, List.map_cons, List.map_append, List.map_map, List.map_nil,
    Function.comp_def, decode_sessionPart]

/-! ### The statements -/

/-- Settles O34: each expansion is its list of slots, read slot by slot. -/
theorem pseudoInstructionsExpand : Obligations.PseudoInstructionsExpand := by
  unfold Obligations.PseudoInstructionsExpand
  refine ⟨fun v0 v16 s => ⟨calSequenceSlots v0 v16, rfl, calSequenceSlots_decode v0 v16, ?_⟩,
    fun s => ⟨sampleSlots, rfl, rfl, ?_⟩⟩
  · intro x hx
    obtain ⟨n, v, rfl⟩ := mem_calSequenceSlots hx
    exact ⟨rfl, rfl, rfl⟩
  · intro x hx
    obtain ⟨i, star, rfl⟩ := mem_sampleSlots hx
    exact ⟨rfl, rfl⟩

/-- Settles O7: the head's code decodes and is run, or is refused and dropped. -/
theorem stepRunsDecodedOperation : Obligations.StepRunsDecodedOperation := by
  unfold Obligations.StepRunsDecodedOperation
  refine ⟨fun s slot rest hq hg => ?_, step_ne_refused⟩
  have hslot : nextSlot s = slot := nextSlot_of_queue hq hg
  intro answers s'
  have hs' : fetched s = s' := fetched_of_queue hq hg
  clear_value s'
  subst hs'
  refine ⟨fun i hd => ⟨fun hstar => ?_, fun hstar t he => ?_, fun f he => ?_, exec_ne_refused i _⟩,
    fun hd => ⟨fun hi lo hc => ?_, fun hc => ?_⟩⟩
  · exact step_of_not_star (by rwa [hslot]) (by rwa [hslot])
  · rw [step_of_exec_next (by rwa [hslot]) he, hslot]
    simp [requeue, hstar]
  · exact step_of_exec_fault (by rwa [hslot]) he
  · rw [step_of_rejected (by rwa [hslot]), hslot, hc]
    rfl
  · rw [step_of_rejected (by rwa [hslot]), hslot, rejected_of_ne_spiOut hc]

/-- Settles O8: each agent's turn is the step of its operation, which completes and places nothing. -/
theorem idleStepRunsAnAgent : Obligations.IdleStepRunsAnAgent := by
  unfold Obligations.IdleStepRunsAnAgent
  refine ⟨fun s => ?_, fun s turn hturn => ?_⟩
  · unfold turnDue
    cases s.queue with
    | nil => rfl
    | cons slot rest => exact gapTurn_eq slot.part s.draws
  · intro answers kept s'
    have hkept : keptAfter turn s.queue = kept := keptAfter_eq turn s.queue
    have hs' : fetched s = s' := by rw [fetched_of_turn hturn, hkept]; rfl
    clear_value s' kept
    subst hs' hkept
    cases turn with
    | adc =>
      exact step_of_completing_turn hturn (decode_codeOfTurn_adc _)
        ⟨_, exec_adcStepOf_enabled (fetched s), adcTaskBody_queue ..⟩
    | tick => exact step_of_completing_turn hturn rfl ⟨_, rfl, tick_queue _⟩
    | supervisingReset => exact step_of_completing_turn hturn rfl ⟨_, rfl, rfl⟩
    | host frame =>
      by_cases hd : ∃ i, decode (.host frame) = .ok i
      · obtain ⟨i, hd⟩ := hd
        obtain ⟨t, hstep, hkept, he⟩ :=
          step_of_completing_turn hturn hd (exec_hostCommand (isHostCommand_of_decode hd) (fetched s))
        refine ⟨t, hstep, hkept, fun j hj => ?_, fun hno => absurd hd (hno i)⟩
        rw [hd] at hj
        cases hj
        exact he
      · push Not at hd
        exact ⟨fetched s, step_of_refused_frame hturn hd, by rw [fetched_of_turn hturn]; rfl,
          fun i hi => absurd hi (hd i), fun _ => rfl⟩

end Sys2Proof.Proofs
end

section
/-!
SUPPORT. What keeps the ranges and relations of a reachable state (`Safe`), operation by operation: the
moving averages and the sample pipeline, SET_OUTPUT and its callers, the resets. After these, the
statement on the agents' steps.
-/

namespace Sys2Proof.Proofs

open Sys2Proof Sys2Proof.Machine

/-! ### The moving average keeps its shape -/

/-- One update keeps a window over `[lo, hi]`: shape, position, and the sum of the slots. -/
theorem windowOk_maUpdate {len : Nat} {lo hi x : Int} {m : MovAvg} (h : windowOk len lo hi m)
    (hlo : lo ≤ x) (hhi : x ≤ hi) : windowOk len lo hi (maUpdate m len x).1 := by
  obtain ⟨hlen, hpos, hinit⟩ := h
  cases hm : m.init with
  | false =>
    rw [maUpdate_first m len x hm]
    refine ⟨by simp, Nat.zero_lt_of_lt hpos, fun _ => ⟨by simp, fun y hy => ?_⟩⟩
    rw [List.eq_of_mem_replicate hy]
    exact ⟨hlo, hhi⟩
  | true =>
    obtain ⟨hsum, hslots⟩ := hinit hm
    rw [maUpdate_later m len x hm]
    refine ⟨by simpa using hlen, Nat.mod_lt _ (by omega), fun _ => ⟨?_, fun y hy => ?_⟩⟩
    · have hp : m.pos < m.slot.length := by omega
      simp only [List.sum_set', hp, dif_pos, List.getD_eq_getElem, hsum]
      ring
    · rcases List.mem_or_eq_of_mem_set hy with hy | rfl
      · exact hslots y hy
      · exact ⟨hlo, hhi⟩

/-- The mean of values in `[0, hi]` is in `[0, hi]`. -/
theorem maUpdate_value_mem {len : Nat} {hi x : Int} {m : MovAvg} (h : windowOk len 0 hi m)
    (h0 : 0 ≤ x) (hhi : x ≤ hi) : 0 ≤ (maUpdate m len x).2 ∧ (maUpdate m len x).2 ≤ hi := by
  have hinit : (maUpdate m len x).1.init = true := by cases hm : m.init <;> simp [maUpdate, hm]
  obtain ⟨hlen, hpos, hafter⟩ := windowOk_maUpdate h h0 hhi
  obtain ⟨hsum, hslots⟩ := hafter hinit
  have hsum0 : 0 ≤ (maUpdate m len x).1.slot.sum := List.sum_nonneg fun y hy => (hslots y hy).1
  have hsumhi : (maUpdate m len x).1.slot.sum ≤ hi * len := by
    have hcard := List.sum_le_card_nsmul _ hi fun y hy => (hslots y hy).2
    rw [hlen, nsmul_eq_mul, mul_comm] at hcard
    exact hcard
  rw [maUpdate_value, hsum, Int.tdiv_eq_ediv_of_nonneg hsum0]
  exact ⟨Int.ediv_nonneg hsum0 (by omega), Int.ediv_le_of_le_mul (by omega) hsumhi⟩

/-! ### The computed resistances are in range -/

theorem cpResistance_mem {d vmax rref vref high : Int} (hr : 0 ≤ rref) :
    0 ≤ cpResistance d vmax rref vref high ∧ cpResistance d vmax rref vref high ≤ 0xFFFF := by
  unfold cpResistance Config.kOpen Config.kHighOpenMarginMv
  split_ifs with hopen hdegenerate hlow
  · decide
  · decide
  · decide
  · have hnum : 0 ≤ rref * (high - d) * (vmax - vref) :=
      mul_nonneg (mul_nonneg hr (by omega)) (by omega)
    have hden : 0 ≤ (vref - d) * (vmax - high) := mul_nonneg (by omega) (by omega)
    have hq := Int.tdiv_nonneg hnum hden
    omega

theorem ppResistance_mem (v : Int) : 0 ≤ ppResistance v ∧ ppResistance v ≤ 0xFFFF := by
  unfold ppResistance Config.kOpen Config.kPpRailMv Config.kPpOpenMarginMv Config.kPpRTop
  split_ifs with hopen hlow
  · decide
  · decide
  · have hq := Int.tdiv_nonneg (a := 1000 * v) (b := 5000 - v) (by omega) (by omega)
    refine ⟨hq, ?_⟩
    rw [Int.tdiv_eq_ediv_of_nonneg (by omega)]
    exact Int.ediv_le_of_le_mul (by omega) (by omega)

theorem refPoint_resistance_nonneg (e : CalParams) (duty : U16) (ma : U32) :
    0 ≤ (refPoint e duty ma).1 := by
  unfold refPoint Config.kRRefOff Config.kRRefOn
  split <;> simp

theorem resistanceField_le {r : Int} (h0 : 0 ≤ r) (h : r ≤ 0xFFFF) :
    (resistanceField r).toNat ≤ 0xFFFF := by
  simp only [resistanceField, BitVec.toNat_ofInt]
  omega

/-! ### The sample pipeline keeps a safe state safe -/

/-- `Safe` speaks of the state record only. -/
theorem safe_of_arch_eq {s t : State} (h : Safe s) (ht : t.arch = s.arch) : Safe t := by
  obtain ⟨divisors, duty, step, countdowns, resistances, cpWindow, ppWindow, ccWindow, ccQueue,
    channel, relay⟩ := h
  unfold divisorsNonzero at divisors
  rw [← ht] at *
  exact ⟨divisors, duty, step, countdowns, resistances, cpWindow, ppWindow, ccWindow, ccQueue,
    channel, relay⟩

/-- The push keeps the length and the position of the estimator's queue. -/
theorem queuePush_shape {n : Nat} (a : I16) (c : Cc) (h : c.queue.length = n ∧ c.qpos < n) :
    (queuePush n a c).queue.length = n ∧ (queuePush n a c).qpos < n := by
  unfold queuePush
  split
  · exact ⟨by simpa using h.1, Nat.mod_lt _ (by omega)⟩
  · exact ⟨by simp, Nat.zero_lt_of_lt h.2⟩

theorem queuePush_avg (n : Nat) (a : I16) (c : Cc) : (queuePush n a c).avg = c.avg := by
  unfold queuePush
  split <;> rfl

theorem safe_ccUpdate {s : State} (h : Safe s) (env : Env) (code : I16) :
    Safe (s.withArch (ccUpdate Config.params env code s.arch)) := by
  unfold ccUpdate
  split
  · refine { h with ccWindow := ?_, ccQueue := queuePush_shape _ _ h.ccQueue }
    have hcode := BitVec.le_toInt (x := code)
    have hcode' := BitVec.toInt_lt (x := code)
    simp only [withArch_arch, ccEstimate, queuePush_avg]
    exact windowOk_maUpdate h.ccWindow (by omega) (by omega)
  · exact h

theorem safe_cpVoltages {s : State} (h : Safe s) (code : I16) :
    Safe (s.withArch (cpVoltages code s.arch)) := { h with }

/-- A resistance in range, fed to the CP window, leaves window and field in range. -/
theorem safe_cpResistance_fed {s : State} (h : Safe s) (high : I32) {r : Int}
    (hr : 0 ≤ r ∧ r ≤ 0xFFFF) :
    let fed := maUpdate s.arch.cp.resAvg 4 r
    Safe (s.withArch { s.arch with cp := { s.arch.cp with
      highVoltage := high, resistance := resistanceField fed.2, resAvg := fed.1 } }) := by
  have hmean := maUpdate_value_mem h.cpWindow hr.1 hr.2
  exact { h with
    resistances := ⟨resistanceField_le hmean.1 hmean.2, h.resistances.2⟩
    cpWindow := windowOk_maUpdate h.cpWindow hr.1 hr.2 }

theorem safe_cpPublish {s : State} (h : Safe s) (P : Params) (env : Env) :
    Safe (s.withArch (cpPublish P env s.arch)) :=
  safe_cpResistance_fed h _ (cpResistance_mem (refPoint_resistance_nonneg ..))

theorem safe_updateCp {s : State} (h : Safe s) (env : Env) (code : I16) :
    Safe (s.withArch (updateCp Config.params env code s.arch)) := by
  have hv := safe_cpVoltages h code
  unfold updateCp
  dsimp only
  split
  · exact hv
  · exact safe_ccUpdate (safe_cpPublish hv Config.params env) env code

theorem safe_updatePp {s : State} (h : Safe s) (code : I16) :
    Safe (s.withArch (updatePp code s.arch)) := by
  have hr := ppResistance_mem (ppVoltage code.toInt).toInt
  have hmean := maUpdate_value_mem h.ppWindow hr.1 hr.2
  exact { h with
    resistances := ⟨h.resistances.1, resistanceField_le hmean.1 hmean.2⟩
    ppWindow := windowOk_maUpdate h.ppWindow hr.1 hr.2 }

/-- A countdown that is not yet 0 falls. -/
theorem countdown_pred_le {n : U8} (hn : n ≠ 0) : (n - 1).toNat ≤ n.toNat := by bv_omega

theorem safe_process {s : State} (h : Safe s) (env : Env) (ch : Channel) (code : I16) :
    Safe (s.withArch (process Config.params env ch code s.arch)) := by
  have hcd := h.countdowns
  cases ch with
  | cp =>
    have hraw : Safe (s.withArch { s.arch with cp := { s.arch.cp with raw := code } }) := { h with }
    simp only [process, processCp]
    split
    · rename_i hn
      exact { h with countdowns := ⟨(countdown_pred_le hn).trans hcd.1, hcd.2⟩ }
    · exact safe_updateCp hraw env code
  | pp =>
    have hraw : Safe (s.withArch { s.arch with pp := { s.arch.pp with raw := code } }) := { h with }
    simp only [process, processPp]
    split
    · rename_i hn
      exact { h with countdowns := ⟨hcd.1, (countdown_pred_le hn).trans hcd.2⟩ }
    · exact safe_updatePp hraw code
  | temp => exact h

/-! ### The ADC task keeps a safe state safe -/

theorem safe_withAdc {s : State} (h : Safe s) {x : Adc} (hx : x.channel ≠ .temp) :
    Safe (s.withAdc x) := { h with channel := hx }

@[simp] theorem spiWrite16_arch (w : U16) (s : State) : (spiWrite16 w s).arch = s.arch := by
  obtain ⟨c, d, h⟩ := spiWrite16_frame w s
  rw [h]

theorem safe_adcTaskBody {s : State} (h : Safe s) (p : AdcPhase) : Safe (adcTaskBody p s) := by
  cases p with
  | configure =>
    exact safe_withAdc (safe_of_arch_eq h (by simp)) (by simpa using h.channel)
  | delay =>
    simp only [adcTaskBody, adcDelay]
    split
    · exact h
    · exact safe_withAdc (safe_of_arch_eq (t := csAssert s) h rfl) h.channel
  | waitDrdy =>
    simp only [adcTaskBody, adcWaitDrdy, timeoutRetry]
    split_ifs
    · exact safe_withAdc h h.channel
    · exact safe_withAdc (safe_of_arch_eq h (by simp)) (by simpa using h.channel)
    · exact h
  | read =>
    have hp := safe_process h s.env s.arch.adc.channel (sampleCode s.env.inputs.spiWord)
    refine safe_of_arch_eq (safe_withAdc (x := (adcRead Config.params s).arch.adc) hp ?_) rfl
    change (if s.arch.adc.channel = .cp then Channel.pp else Channel.cp) ≠ .temp
    split <;> decide

/-! ### SET_OUTPUT keeps a safe state safe -/

/-- The state with the relay off: `Safe` of it is `Safe` but for the relay's relation to state C, which
a tick breaks between SET_STATE and the actuation. -/
def relayOff (s : State) : State := s.withOut { s.arch.out with contactor := false }

theorem safe_relayOff {s : State} (h : Safe s) : Safe (relayOff s) := { h with relay := nofun }

/-- SET_OUTPUT keeps the ranges for a duty in range, and settles the relay's relation again: it engages
the relay only in state C. -/
theorem safe_setOutput {s : State} (h : Safe (relayOff s)) {duty : U16} {req : Bool}
    (hduty : 80 ≤ duty.toNat ∧ duty.toNat ≤ 1000) (hreq : req = true → s.arch.sm.state = .c) :
    Safe (setOutput duty req s) := by
  obtain ⟨ci, pi, hcp, hpp, _, hci, _, hpi⟩ := setOutput_channels duty req s
  obtain ⟨divisors, -, step, countdowns, resistances, cpWindow, ppWindow, ccWindow, ccQueue,
    channel, -⟩ := h
  have hcd : s.arch.cp.invalid.toNat ≤ 4 ∧ s.arch.pp.invalid.toNat ≤ 4 := countdowns
  constructor
  case relay =>
    rw [setOutput_contactor, setOutput_arch_sm]
    cases req with
    | true => exact fun _ => hreq rfl
    | false => simp
  case countdowns => rw [hcp, hpp]; dsimp only; omega
  case duty => rwa [setOutput_duty]
  case divisors => simpa [divisorsNonzero, relayOff] using divisors
  all_goals simpa [hcp, hpp]

/-! ### TICK keeps a safe state safe -/

/-- The duty for a current is a duty (44_iec61851_state_machine.md rule R193). -/
theorem dutyField_mem (ma : Nat) : 80 ≤ (dutyField ma).toNat ∧ (dutyField ma).toNat ≤ 1000 := by
  have hmem : 80 ≤ dutyForCurrent ma ∧ dutyForCurrent ma ≤ 1000 := by
    unfold dutyForCurrent Config.kDutyMin Config.kDutyMax
    split_ifs <;> omega
  simp only [dutyField, BitVec.toNat_ofNat]
  omega

theorem dutyFull_mem : 80 ≤ Config.kDutyFull.toNat ∧ Config.kDutyFull.toNat ≤ 1000 := by decide

theorem safe_relayOff_setState {s : State} (h : Safe (relayOff s)) (new : ChargeState) (t : U32) :
    Safe (relayOff (setState new t s)) := by
  obtain ⟨sm, ev, hset, _⟩ := setState_frame new t s
  rw [hset]
  exact { h with relay := nofun }

/-- The actuation of the state the machine is in: the relay is requested in state C alone. -/
theorem safe_actuate {s : State} (h : Safe (relayOff s)) (ma : Nat) :
    Safe (actuate s.arch.sm.state ma s) := by
  rw [actuate_eq]
  refine safe_setOutput ?_ ?_ fun hc => of_decide_eq_true hc
  · exact { h with relay := nofun }
  · split
    · exact dutyField_mem ma
    · exact dutyFull_mem

theorem safe_tick {s : State} (h : Safe s) : Safe (tick s) := by
  rcases tick_cases s with ht | ⟨new, g, ev, u, rfl, -, ht⟩ <;> rw [ht]
  · exact h
  · refine safe_actuate (safe_relayOff_setState ?_ new s.env.now) _
    exact { h with relay := nofun }

/-! ### The factory session keeps a safe state safe -/

theorem safe_withFactory {s : State} (h : Safe s) {p : CalParams} (hp : p.div ≠ 0) :
    Safe (s.withFactory p) := { h with divisors := ⟨hp, h.divisors.2⟩ }

theorem safe_withCalStep {s : State} (h : Safe s) {n : U8} (hn : n.toNat ≤ 16) :
    Safe (s.withCalStep n) := { h with step := hn }

theorem safe_persistSaveFactory {s : State} (h : Safe s) (P : Params) :
    Safe (persistSaveFactory P s) := safe_of_arch_eq h rfl

/-- The session drives the duty with the relay off. -/
theorem safe_setOutput_relay_off {s : State} (h : Safe s) {duty : U16}
    (hduty : 80 ≤ duty.toNat ∧ duty.toNat ≤ 1000) : Safe (setOutput duty false s) :=
  safe_setOutput (safe_relayOff h) hduty nofun

/-- An accepted step 0 captures the CP voltage as the divisor, which R159 checks not to be 0. -/
theorem voltage_ne_zero_of_accepted {step : U8} {password : U32} {a : Arch}
    (h : calStepAccepted step password a = true) (h0 : step = 0) : a.cp.voltage ≠ 0 := by
  simp only [calStepAccepted, decide_eq_true_eq] at h
  obtain ⟨-, -, -, hchecks⟩ := h
  exact (hchecks h0).2

theorem safe_sessionStep {s : State} (h : Safe s) {step : U8}
    (hv : step = 0 → s.arch.cp.voltage ≠ 0) (P : Params) (value : I16) :
    Safe (sessionStep P step value s) := by
  have hdiv := h.divisors.1
  unfold sessionStep
  split_ifs with h0 h1 htable
  · exact safe_withCalStep (safe_withFactory h (hv h0)) (by decide)
  · refine safe_withCalStep (safe_setOutput_relay_off (safe_withFactory h ?_) (dutyField_mem _))
      (by decide)
    exact hdiv
  · refine safe_withCalStep (safe_setOutput_relay_off (safe_withFactory h ?_) (dutyField_mem _)) ?_
    · exact hdiv
    · simp only [BitVec.toNat_ofNat]
      omega
  · refine safe_withCalStep (safe_persistSaveFactory
      (safe_setOutput_relay_off (safe_withFactory h ?_) dutyFull_mem) P) (by decide)
    exact hdiv

theorem safe_respond {s : State} (h : Safe s) (r : Response) : Safe (s.respond r) :=
  safe_of_arch_eq h rfl

theorem safe_calStep {s : State} (h : Safe s) (P : Params) (step : U8) (password : U32) (value : I16) :
    Safe (calStep P step password value s) := by
  unfold calStep
  split
  · rename_i hok
    exact safe_respond (safe_sessionStep h (voltage_ne_zero_of_accepted hok) P value) _
  · exact safe_respond h _

theorem safe_calAbort {s : State} (h : Safe s) (P : Params) (password : U32) :
    Safe (calAbort P password s) := by
  unfold calAbort
  split
  · exact safe_respond (safe_withCalStep (safe_setOutput_relay_off
      (safe_withFactory h (loadFactory_div P s)) dutyFull_mem) (by decide)) _
  · exact safe_respond h _

/-! ### The other host commands and the resets keep a safe state safe -/

theorem safe_setUserCalibration {s : State} (h : Safe s) (P : Params) (password : U32) (active : Bool)
    (p : CalParams) : Safe (setUserCalibration P password active p s) := by
  unfold setUserCalibration
  split
  · rename_i hok
    simp only [userCalAccepted, decide_eq_true_eq] at hok
    exact { h with divisors := ⟨h.divisors.1, hok.2⟩ }
  · exact safe_respond h _

theorem windowOk_freeWindow (n k : Nat) {len : Nat} (hlen : 0 < len) (lo hi : Int) :
    windowOk len lo hi (freeWindow n k len) :=
  ⟨by simp [freeWindow], Nat.mod_lt _ hlen, nofun⟩

/-- After a reset the record is safe whatever it was before, given its two calibration sets. -/
theorem safe_afterReset (s : State) (n : Nat) (now : U32) {p : CalParams} {u : UserSet}
    (hp : p.div ≠ 0) (hu : u.params.div ≠ 0) :
    Safe (s.withArch { resetTransient Config.params n now s.arch with
      factory := p, user := u, out := ⟨Config.kDutyFull, false, false⟩ }) where
  divisors := ⟨hp, hu⟩
  duty := dutyFull_mem
  step := Nat.zero_le _
  countdowns := ⟨Nat.zero_le _, Nat.zero_le _⟩
  resistances := ⟨Nat.zero_le _, Nat.zero_le _⟩
  cpWindow := windowOk_freeWindow n 0 (by decide) ..
  ppWindow := windowOk_freeWindow n 1 (by decide) ..
  ccWindow := windowOk_freeWindow n 2 (Nat.succ_pos _) ..
  ccQueue := ⟨by simp [resetTransient], Nat.mod_lt _ (Nat.succ_pos _)⟩
  channel := nofun
  relay := nofun

theorem safe_resetPowerOn (s : State) : Safe (resetPowerOn Config.params s) :=
  safe_of_arch_eq
    (safe_afterReset s s.draws s.env.now (loadFactory_div Config.params s)
      (loadUser_div Config.params s))
    rfl

theorem safe_resetSupervising {s : State} (h : Safe s) : Safe (resetSupervising Config.params s) :=
  safe_of_arch_eq (safe_afterReset s s.draws s.env.now h.divisors.1 h.divisors.2) rfl

/-! ### Every operation but a placed SET_STATE or SET_OUTPUT keeps a safe state safe -/

/-- A placed SET_OUTPUT may drive any duty, or the relay in any state, and a placed SET_STATE may leave
the relay engaged outside C; every other operation keeps a safe state safe. -/
theorem safe_exec {i : Instr} {s t : State} (h : Safe s) (he : exec i s = .next t)
    (hstate : ∀ new now, i ≠ .setState new now) (hout : ∀ duty req, i ≠ .setOutput duty req) :
    Safe t := by
  have adcStep (p : AdcPhase) (he : exec (adcStepOf p) s = .next t) : Safe t := by
    rw [(adcStepOf_next he).2]
    exact safe_adcTaskBody h p
  cases i with
  | adcConfigure => exact adcStep .configure he
  | adcDelay => exact adcStep .delay he
  | adcWaitDrdy => exact adcStep .waitDrdy he
  | adcRead => exact adcStep .read he
  | updateCp code => cases he; exact safe_updateCp h s.env code
  | updatePp code => cases he; exact safe_updatePp h code
  | ccUpdate code => cases he; exact safe_ccUpdate h s.env code
  | tick => cases he; exact safe_tick h
  | setState new now => exact absurd rfl (hstate new now)
  | setOutput duty req => exact absurd rfl (hout duty req)
  | calStep | calPass => cases he; exact safe_calStep h ..
  | calAbort => cases he; exact safe_calAbort h ..
  | setUserCalibration => cases he; exact safe_setUserCalibration h ..
  | resetPowerOn => cases he; exact safe_resetPowerOn s
  | resetSupervising => cases he; exact safe_resetSupervising h
  | startCharging | stopCharging => cases he; exact { h with }
  | ads1118CfgNormal | ads1118CfgFast | ads1118CfgTemp =>
    cases he; exact safe_of_arch_eq h (spiWrite16_arch ..)
  | _ => cases he; exact safe_of_arch_eq h rfl

/-! ### The agents' steps -/

theorem turnDue_of_idle {s : State} (hidle : idle s) : turnDue s = some (Config.turn s.draws) := by
  unfold turnDue
  rw [show s.queue = [] from hidle]

/-- An agent's step drops a refused frame, or runs an operation that is no SET_STATE and no
SET_OUTPUT. -/
theorem step_of_idle {s t : State} (hidle : idle s) (hstep : step s = .next t) :
    t = fetched s ∨ ∃ i, exec i (fetched s) = .next t ∧
      (∀ new now, i ≠ .setState new now) ∧ ∀ duty req, i ≠ .setOutput duty req := by
  have hturn := turnDue_of_idle hidle
  generalize Config.turn s.draws = turn at hturn
  cases turn with
  | adc =>
    rw [step_of_turn hturn (decode_codeOfTurn_adc _)] at hstep
    refine .inr ⟨_, hstep, ?_⟩
    cases s.arch.adc.phase <;> exact ⟨nofun, nofun⟩
  | tick =>
    rw [step_of_turn (i := .tick) hturn rfl] at hstep
    exact .inr ⟨_, hstep, nofun, nofun⟩
  | supervisingReset =>
    rw [step_of_turn (i := .resetSupervising) hturn rfl] at hstep
    exact .inr ⟨_, hstep, nofun, nofun⟩
  | host frame =>
    by_cases hd : ∃ i, decode (.host frame) = .ok i
    · obtain ⟨i, hd⟩ := hd
      have hi := isHostCommand_of_decode hd
      rw [step_of_turn hturn hd] at hstep
      refine .inr ⟨i, hstep, ?_, ?_⟩
      · rintro _ _ rfl
        cases hi
      · rintro _ _ rfl
        cases hi
    · push Not at hd
      rw [step_of_refused_frame hturn hd] at hstep
      exact .inl (Host.Outcome.next.inj hstep).symm

/-- No agent places an operation. -/
theorem idle_of_step {s t : State} (hidle : idle s) (hstep : step s = .next t) : idle t := by
  obtain ⟨u, hu, hqueue, -⟩ := idleStepRunsAnAgent.2 s _ (turnDue_of_idle hidle)
  rw [hstep] at hu
  cases hu
  rw [idle, hqueue, show s.queue = [] from hidle]
  simp

/-- Settles O10: a dropped frame changes nothing in `S`, and no agent runs SET_STATE or SET_OUTPUT by
itself. -/
theorem agentStepsKeepSafe : Obligations.AgentStepsKeepSafe := by
  unfold Obligations.AgentStepsKeepSafe
  intro s t hidle hsafe hstep
  refine ⟨?_, idle_of_step hidle hstep⟩
  have hfetched : Safe (fetched s) := safe_of_arch_eq hsafe rfl
  rcases step_of_idle hidle hstep with rfl | ⟨i, he, hstate, hout⟩
  · exact hfetched
  · exact safe_exec hfetched he hstate hout

end Sys2Proof.Proofs
end

section
/-!
SUPPORT. Which parts of the state record each operation writes (10_state.md rule R44): a frame for
SET_OUTPUT and its callers, one for the sample pipeline, one for the ADC task. After these, the statement
on the writers of each field, and from it the one on the divisors.
-/

namespace Sys2Proof.Proofs

open Sys2Proof Sys2Proof.Machine

/-! ### The callers of SET_OUTPUT -/

/-- From `a` to `b` no measurement changed: of the parts that hold them, only the two countdowns may
differ. The calibration session, the state machine and the outputs are free to change. -/
structure KeepsMeasurements (a b : Arch) : Prop where
  adc : b.adc = a.adc
  cp : ∃ n, b.cp = { a.cp with invalid := n }
  pp : ∃ n, b.pp = { a.pp with invalid := n }
  cc : b.cc = a.cc
  user : b.user = a.user

theorem KeepsMeasurements.refl (a : Arch) : KeepsMeasurements a a :=
  ⟨rfl, ⟨_, rfl⟩, ⟨_, rfl⟩, rfl, rfl⟩

theorem keepsMeasurements_setOutput (duty : U16) (req : Bool) (s : State) :
    KeepsMeasurements s.arch (setOutput duty req s).arch := by
  obtain ⟨ci, pi, hcp, hpp, -⟩ := setOutput_channels duty req s
  exact ⟨setOutput_arch_adc .., ⟨ci, hcp⟩, ⟨pi, hpp⟩, setOutput_arch_cc .., setOutput_arch_user ..⟩

theorem setState_arch (new : ChargeState) (t : U32) (s : State) :
    ∃ sm, (setState new t s).arch = { s.arch with sm := sm } := by
  obtain ⟨sm, ev, h, -⟩ := setState_frame new t s
  exact ⟨sm, by rw [h]⟩

/-- A tick writes countdowns, the state machine and the outputs. -/
theorem tick_frame (s : State) :
    KeepsMeasurements s.arch (tick s).arch ∧ (tick s).arch.factory = s.arch.factory ∧
      (tick s).arch.cal = s.arch.cal := by
  rcases tick_cases s with h | ⟨new, g, ev, u, rfl, -, h⟩ <;> rw [h]
  · exact ⟨.refl _, rfl, rfl⟩
  · rw [actuate_eq]
    generalize hu : setState new s.env.now _ = u
    obtain ⟨sm, hsm⟩ := setState_arch new s.env.now { s with
      arch := { s.arch with sm := { s.arch.sm with id3GuardTime := g } }, trace := s.trace ++ ev }
    rw [hu] at hsm
    rw [hsm]
    exact ⟨{ keepsMeasurements_setOutput .. with }, setOutput_arch_factory .., setOutput_arch_cal ..⟩

/-- A session step writes countdowns, the factory set, the session's step and the outputs. -/
theorem sessionStep_frame (P : Params) (step : U8) (value : I16) (s : State) :
    KeepsMeasurements s.arch (sessionStep P step value s).arch ∧
      (sessionStep P step value s).arch.sm = s.arch.sm := by
  unfold sessionStep
  split_ifs
  · exact ⟨{ KeepsMeasurements.refl s.arch with }, rfl⟩
  all_goals exact ⟨{ keepsMeasurements_setOutput _ _ (s.withFactory _) with }, setOutput_arch_sm ..⟩

theorem calStep_frame (P : Params) (step : U8) (password : U32) (value : I16) (s : State) :
    KeepsMeasurements s.arch (calStep P step password value s).arch ∧
      (calStep P step password value s).arch.sm = s.arch.sm := by
  unfold calStep
  split
  · exact sessionStep_frame P step value s
  · exact ⟨.refl _, rfl⟩

theorem calAbort_frame (P : Params) (password : U32) (s : State) :
    KeepsMeasurements s.arch (calAbort P password s).arch ∧
      (calAbort P password s).arch.sm = s.arch.sm := by
  unfold calAbort
  split
  · exact ⟨{ keepsMeasurements_setOutput _ _ (s.withFactory _) with }, setOutput_arch_sm ..⟩
  · exact ⟨.refl _, rfl⟩

/-! ### The sample pipeline and the ADC task -/

theorem ccUpdate_frame (P : Params) (env : Env) (code : I16) (a : Arch) :
    ∃ cc, ccUpdate P env code a = { a with cc := cc } := by
  unfold ccUpdate
  split
  · exact ⟨_, rfl⟩
  · exact ⟨a.cc, rfl⟩

/-- UPDATE_CP writes CP's published values and the estimator. -/
theorem updateCp_frame (P : Params) (env : Env) (code : I16) (a : Arch) :
    ∃ (cp : Cp) (cc : Cc), updateCp P env code a = { a with
      cp := { cp with raw := a.cp.raw, invalid := a.cp.invalid }, cc := cc } := by
  unfold updateCp
  dsimp only
  split
  · exact ⟨(cpVoltages code a).cp, a.cc, rfl⟩
  · obtain ⟨cc, h⟩ := ccUpdate_frame P env code (cpPublish P env (cpVoltages code a))
    exact ⟨(cpPublish P env (cpVoltages code a)).cp, cc, h⟩

/-- A processed sample writes the measurements. -/
theorem process_frame (P : Params) (env : Env) (ch : Channel) (code : I16) (a : Arch) :
    ∃ cp pp cc, process P env ch code a = { a with cp := cp, pp := pp, cc := cc } := by
  cases ch with
  | cp =>
    simp only [process, processCp]
    split
    · exact ⟨_, _, _, rfl⟩
    · obtain ⟨cp, cc, h⟩ := updateCp_frame P env code { a with cp := { a.cp with raw := code } }
      exact ⟨_, _, _, h⟩
  | pp =>
    simp only [process, processPp]
    split <;> exact ⟨_, _, _, rfl⟩
  | temp => exact ⟨a.cp, a.pp, a.cc, rfl⟩

/-- Before the read, the ADC task writes its own record only. -/
theorem adcTaskBody_frame {p : AdcPhase} (hp : p ≠ .read) (s : State) :
    ∃ adc, (adcTaskBody p s).arch = { s.arch with adc := adc } := by
  cases p with
  | configure => exact ⟨_, by simp [adcTaskBody, adcConfigure, State.withAdc]; rfl⟩
  | delay =>
    simp only [adcTaskBody, adcDelay]
    split
    · exact ⟨s.arch.adc, rfl⟩
    · exact ⟨_, rfl⟩
  | waitDrdy =>
    simp only [adcTaskBody, adcWaitDrdy]
    split_ifs
    · exact ⟨_, rfl⟩
    · exact ⟨_, by simp [timeoutRetry, State.withAdc]; rfl⟩
    · exact ⟨s.arch.adc, rfl⟩
  | read => exact absurd rfl hp

/-- The read writes the ADC task's record and the measurements. -/
theorem adcRead_frame (P : Params) (s : State) :
    ∃ adc cp pp cc, (adcRead P s).arch = { s.arch with adc := adc, cp := cp, pp := pp, cc := cc } := by
  obtain ⟨cp, pp, cc, h⟩ :=
    process_frame P s.env s.arch.adc.channel (sampleCode s.env.inputs.spiWord) s.arch
  exact ⟨_, cp, pp, cc, congrArg (fun a => { a with adc := (adcRead P s).arch.adc }) h⟩

theorem exec_adcStep_frame {p : AdcPhase} (hp : p ≠ .read) {s t : State}
    (h : exec (adcStepOf p) s = .next t) : ∃ adc, t.arch = { s.arch with adc := adc } := by
  obtain ⟨-, rfl⟩ := adcStepOf_next h
  exact adcTaskBody_frame hp s

@[simp] theorem spiReturns_arch (w : U16) (s : State) : (spiReturns w s).arch = s.arch := rfl

/-! ### The statements -/

/-- Settles O13: the frame of each operation, read against the lists its mnemonic is in. -/
theorem fieldsHaveTheirWritersOnly : Obligations.FieldsHaveTheirWritersOnly := by
  unfold Obligations.FieldsHaveTheirWritersOnly
  intro i s t h
  cases i with
  | tick =>
    cases h
    obtain ⟨⟨hadc, ⟨_, hcp⟩, ⟨_, hpp⟩, hcc, huser⟩, hfactory, hcal⟩ := tick_frame s
    simp [Instr.mnemonic, *]
  | setState new now =>
    cases h
    obtain ⟨sm, harch⟩ := setState_arch new now s
    simp [Instr.mnemonic, harch]
  | setOutput duty req =>
    cases h
    obtain ⟨hadc, ⟨_, hcp⟩, ⟨_, hpp⟩, hcc, huser⟩ := keepsMeasurements_setOutput duty req s
    simp [Instr.mnemonic, hcp, hpp]
  | calStep step password value =>
    cases h
    obtain ⟨⟨hadc, ⟨_, hcp⟩, ⟨_, hpp⟩, hcc, huser⟩, hsm⟩ :=
      calStep_frame Config.params step password value s
    simp [Instr.mnemonic, *]
  | calPass step value =>
    cases h
    obtain ⟨⟨hadc, ⟨_, hcp⟩, ⟨_, hpp⟩, hcc, huser⟩, hsm⟩ :=
      calStep_frame Config.params step (passwordOf step) value s
    simp [Instr.mnemonic, *]
  | calAbort password =>
    cases h
    obtain ⟨⟨hadc, ⟨_, hcp⟩, ⟨_, hpp⟩, hcc, huser⟩, hsm⟩ := calAbort_frame Config.params password s
    simp [Instr.mnemonic, *]
  | adcConfigure =>
    obtain ⟨adc, harch⟩ := exec_adcStep_frame (p := .configure) nofun h
    simp [Instr.mnemonic, harch]
  | adcDelay =>
    obtain ⟨adc, harch⟩ := exec_adcStep_frame (p := .delay) nofun h
    simp [Instr.mnemonic, harch]
  | adcWaitDrdy =>
    obtain ⟨adc, harch⟩ := exec_adcStep_frame (p := .waitDrdy) nofun h
    simp [Instr.mnemonic, harch]
  | adcRead =>
    obtain ⟨-, rfl⟩ := adcStepOf_next (p := .read) h
    obtain ⟨adc, cp, pp, cc, harch⟩ := adcRead_frame Config.params s
    simp [Instr.mnemonic, adcTaskBody, harch]
  | updateCp code =>
    cases h
    obtain ⟨cp, cc, harch⟩ := updateCp_frame Config.params s.env code s.arch
    simp [Instr.mnemonic, harch]
  | updatePp code => cases h; simp [Instr.mnemonic, updatePp]
  | ccUpdate code =>
    cases h
    obtain ⟨cc, harch⟩ := ccUpdate_frame Config.params s.env code s.arch
    simp [Instr.mnemonic, harch]
  | setUserCalibration password active params =>
    cases h
    unfold setUserCalibration
    split <;> simp [Instr.mnemonic, persistSaveUser]
  | resetPowerOn => cases h; simp [Instr.mnemonic]
  | resetSupervising =>
    cases h
    simp [Instr.mnemonic, resetSupervising, resetOutputs, resetTransient]
  | startCharging | stopCharging => cases h; simp [Instr.mnemonic, chargingRequest]
  | _ => cases h; simp [Instr.mnemonic]

/-- A session step other than 0 keeps the divisor, and step 0 captures the CP voltage as it. -/
theorem sessionStep_div {s : State} {step : U8} (h : s.arch.factory.div ≠ 0)
    (hv : step = 0 → s.arch.cp.voltage ≠ 0) (P : Params) (value : I16) :
    (sessionStep P step value s).arch.factory.div ≠ 0 := by
  unfold sessionStep
  split_ifs with h0
  · exact hv h0
  · simpa [sessionStep1] using h
  · simpa [sessionStepTable] using h
  · simpa [sessionStep16, persistSaveFactory] using h

theorem divisorsNonzero_calStep {s : State} (h : divisorsNonzero s) (P : Params) (step : U8)
    (password : U32) (value : I16) : divisorsNonzero (calStep P step password value s) := by
  refine ⟨?_, by rw [(calStep_frame P step password value s).1.user]; exact h.2⟩
  unfold calStep
  split
  · rename_i hok
    exact sessionStep_div h.1 (voltage_ne_zero_of_accepted hok) P value
  · exact h.1

theorem divisorsNonzero_calAbort {s : State} (h : divisorsNonzero s) (P : Params) (password : U32) :
    divisorsNonzero (calAbort P password s) := by
  refine ⟨?_, by rw [(calAbort_frame P password s).1.user]; exact h.2⟩
  unfold calAbort
  split
  · simpa using loadFactory_div P s
  · exact h.1

theorem divisorsNonzero_setUserCalibration {s : State} (h : divisorsNonzero s) (P : Params)
    (password : U32) (active : Bool) (p : CalParams) :
    divisorsNonzero (setUserCalibration P password active p s) := by
  unfold setUserCalibration
  split
  · rename_i hok
    simp only [userCalAccepted, decide_eq_true_eq] at hok
    exact ⟨h.1, hok.2⟩
  · exact h

/-- The writers of a calibration set check the divisor; every other operation keeps both sets. -/
theorem divisorsNonzero_exec {i : Instr} {s t : State} (h : divisorsNonzero s)
    (he : exec i s = .next t) : divisorsNonzero t := by
  obtain ⟨-, -, -, -, -, -, hfactory, huser, -⟩ := fieldsHaveTheirWritersOnly i s t he
  cases i with
  | calStep | calPass => cases he; exact divisorsNonzero_calStep h ..
  | calAbort => cases he; exact divisorsNonzero_calAbort h ..
  | setUserCalibration => cases he; exact divisorsNonzero_setUserCalibration h ..
  | resetPowerOn => cases he; exact (safe_resetPowerOn s).divisors
  | _ => rwa [divisorsNonzero, hfactory (by simp [Instr.mnemonic]), huser (by simp [Instr.mnemonic])]

/-- Settles O12: the operation of the step keeps the divisors, and nothing around it writes a set. -/
theorem divisorsStayNonzero : Obligations.DivisorsStayNonzero := by
  unfold Obligations.DivisorsStayNonzero
  intro s t h hstep
  have hfetched : divisorsNonzero (fetched s) := h
  rcases step_next hstep with ⟨i, u, -, he, rfl⟩ | rfl
  · have hu := divisorsNonzero_exec hfetched he
    obtain ⟨q, hq⟩ := requeue_frame (nextSlot s) (fetched s) u
    rw [hq]
    exact hu
  · rcases rejected_frame (nextSlot s).code (fetched s) with hr | ⟨w, hr⟩ <;> rw [hr]
    · exact hfetched
    · rwa [divisorsNonzero, spiWrite16_arch]

end Sys2Proof.Proofs
end

section
/-!
SUPPORT. The contactor-check collaborator's `state` is read nowhere: every function of the model commutes
with exchanging that input. After these, the statement over all operations.
-/

namespace Sys2Proof.Proofs

open Sys2Proof Sys2Proof.Machine

/-! ### Exchanging one input -/

/-- `s` with another value of the input `ccState` (60_exceptions.md rule R251). -/
def withCcState (x : U32) (s : State) : State :=
  { s with env := { s.env with inputs := { s.env.inputs with ccState := x } } }

theorem withCcState_arch (x : U32) (s : State) : (withCcState x s).arch = s.arch := rfl

/-- A state transformer that neither reads `ccState` nor writes it. -/
def IgnoresCcState (f : State → State) : Prop := ∀ x s, f (withCcState x s) = withCcState x (f s)

namespace IgnoresCcState

theorem same : IgnoresCcState fun s => s := fun _ _ => rfl

theorem comp {f g : State → State} (hf : IgnoresCcState f) (hg : IgnoresCcState g) :
    IgnoresCcState fun s => f (g s) := fun x s => (congrArg f (hg x s)).trans (hf x (g s))

/-- A choice whose condition does not depend on `ccState`. -/
theorem choice {c : State → Prop} [DecidablePred c] {f g : State → State} (hf : IgnoresCcState f)
    (hg : IgnoresCcState g) (hc : ∀ x s, c (withCcState x s) ↔ c s) :
    IgnoresCcState fun s => if c s then f s else g s := by
  intro x s
  simp only [hc, hf x s, hg x s, apply_ite (withCcState x)]

end IgnoresCcState

/-! ### The Output Guard and the state machine -/

theorem ignoresCcState_setOutput (duty : U16) (req : Bool) : IgnoresCcState (setOutput duty req) := by
  have hduty : IgnoresCcState (guardDuty duty) := .choice (fun _ _ => rfl) .same fun _ _ => .rfl
  have hrelay : IgnoresCcState (guardRelay req) := .choice (fun _ _ => rfl) .same fun _ _ => .rfl
  have hunlock : IgnoresCcState (guardUnlock req) := .choice (fun _ _ => rfl) .same fun _ _ => .rfl
  have hlock : IgnoresCcState guardRequestLock := fun _ _ => rfl
  exact .choice (.comp hlock hduty) (.comp hunlock (.comp hrelay hduty)) fun x s => by
    rw [hduty x s]
    rfl

theorem ignoresCcState_setState (new : ChargeState) (t : U32) : IgnoresCcState (setState new t) := by
  rw [funext (setState_eq new t)]
  exact .choice .same (.choice (fun _ _ => rfl) (fun _ _ => rfl) fun _ _ => .rfl) fun _ _ => .rfl

theorem ignoresCcState_actuate (st : ChargeState) (ma : Nat) : IgnoresCcState (actuate st ma) := by
  rw [funext (actuate_eq st ma)]
  exact .comp (ignoresCcState_setOutput _ _) fun _ _ => rfl

/-- SET_STATE and the actuation of the state it leaves, as a tick calls them. -/
theorem ignoresCcState_setState_actuate (new : ChargeState) (now : U32) (ma : Nat) :
    IgnoresCcState fun s => actuate (setState new now s).arch.sm.state ma (setState new now s) := by
  intro x s
  dsimp only
  rw [ignoresCcState_setState new now x s]
  exact ignoresCcState_actuate _ ma x _

theorem ignoresCcState_faultEntry (e : ErrorEvent) : IgnoresCcState (faultEntry e) := fun x s =>
  (congrArg _ (ignoresCcState_setState .ef s.env.now x (s.raise e))).trans
    (ignoresCcState_actuate .ef s.env.inputs.effMaxMa.toNat x _)

theorem ignoresCcState_evaluateAndActuate : IgnoresCcState evaluateAndActuate := fun x s =>
  let target := evaluate s.env.now s.env.inputs.effMaxMa.toNat s.arch
  ignoresCcState_setState_actuate target.1 s.env.now s.env.inputs.effMaxMa.toNat x
    (s.withSm { s.arch.sm with id3GuardTime := target.2 })

theorem ignoresCcState_tick : IgnoresCcState tick :=
  .choice .same
    (.choice (ignoresCcState_faultEntry _)
      (.choice (ignoresCcState_faultEntry _)
        (.choice .same ignoresCcState_evaluateAndActuate fun _ _ => .rfl)
        fun _ _ => .rfl)
      fun _ _ => .rfl)
    fun _ _ => .rfl

/-! ### The host commands -/

/-- A session command's capture into `S.factory`, then a duty with the relay off, then what follows. -/
theorem ignoresCcState_captureAndDrive {capture finish : State → State}
    (hcapture : IgnoresCcState capture) (duty : U16) (hfinish : IgnoresCcState finish) :
    IgnoresCcState fun s => finish (setOutput duty false (capture s)) :=
  hfinish.comp (.comp (ignoresCcState_setOutput duty false) hcapture)

theorem ignoresCcState_sessionStep (P : Params) (step : U8) (value : I16) :
    IgnoresCcState (sessionStep P step value) := by
  have hstep1 : IgnoresCcState sessionStep1 :=
    ignoresCcState_captureAndDrive
      (capture := fun s => s.withFactory
        { s.arch.factory with ref2700 := wrap16 s.arch.cp.highVoltage.toInt })
      (fun _ _ => rfl) _ (finish := fun s => s.withCalStep 2) fun _ _ => rfl
  have htable : IgnoresCcState (sessionStepTable step.toNat) :=
    ignoresCcState_captureAndDrive
      (capture := fun s => s.withFactory { s.arch.factory with
        ref880 := s.arch.factory.ref880.setIfInBounds (step.toNat - 2)
          (wrap16 s.arch.cp.highVoltage.toInt) })
      (fun _ _ => rfl) _ (finish := fun s => s.withCalStep _) fun _ _ => rfl
  have hlast : IgnoresCcState (sessionStep16 P value) :=
    ignoresCcState_captureAndDrive
      (capture := fun s => s.withFactory { s.arch.factory with diff := P.diffCapture s.arch value })
      (fun _ _ => rfl) _ (finish := fun s => (persistSaveFactory P s).withCalStep 0) fun _ _ => rfl
  exact .choice (fun _ _ => rfl)
    (.choice hstep1 (.choice htable hlast fun _ _ => .rfl) fun _ _ => .rfl) fun _ _ => .rfl

theorem ignoresCcState_calStep (P : Params) (step : U8) (password : U32) (value : I16) :
    IgnoresCcState (calStep P step password value) :=
  .choice
    (.comp (f := fun s => s.respond (.ok true)) (fun _ _ => rfl)
      (ignoresCcState_sessionStep P step value))
    (fun _ _ => rfl) fun _ _ => .rfl

theorem ignoresCcState_setUserCalibration (P : Params) (password : U32) (active : Bool)
    (p : CalParams) : IgnoresCcState (setUserCalibration P password active p) :=
  .choice (fun _ _ => rfl) (fun _ _ => rfl) fun _ _ => .rfl

theorem ignoresCcState_calAbort (P : Params) (password : U32) : IgnoresCcState (calAbort P password) :=
  .choice
    (ignoresCcState_captureAndDrive
      (capture := fun s => s.withFactory (loadFactory P s)) (fun _ _ => rfl) _
      (finish := fun s => (s.withCalStep 0).respond (.ok true)) fun _ _ => rfl)
    (fun _ _ => rfl) fun _ _ => .rfl

/-! ### The ADC task -/

theorem ignoresCcState_spiWrite16 (w : U16) : IgnoresCcState (spiWrite16 w) :=
  .comp (f := fun s => s.emit (.spiWrite w)) (fun _ _ => rfl)
    (.choice .same (.choice (fun _ _ => rfl) (fun _ _ => rfl) fun _ _ => .rfl) fun _ _ => .rfl)

theorem ignoresCcState_adcConfigure (P : Params) : IgnoresCcState (adcConfigure P) := by
  intro x s
  let mode : AdcMode := if s.env.inputs.fastMode then .fast else .normal
  let w := cfgWord P s.arch.adc.channel mode
  exact congrArg
    (fun u => (csDeassert u).withAdc
      { u.arch.adc with mode := mode, cfg := w, t0 := u.env.now, phase := .delay })
    (ignoresCcState_spiWrite16 w x (csAssert s))

theorem ignoresCcState_timeoutRetry : IgnoresCcState timeoutRetry := by
  intro x s
  let raised := s.raise (.adcTimeout s.arch.adc.channel s.arch.adc.cfg)
  exact congrArg (fun u => u.withAdc { u.arch.adc with t0 := u.env.now })
    (ignoresCcState_spiWrite16 s.arch.adc.cfg x (csAssert (csDeassert raised)))

theorem ignoresCcState_adcTaskBody (p : AdcPhase) : IgnoresCcState (adcTaskBody p) := by
  cases p with
  | configure => exact ignoresCcState_adcConfigure _
  | delay => exact .choice .same (fun _ _ => rfl) fun _ _ => .rfl
  | waitDrdy =>
    exact .choice (fun _ _ => rfl) (.choice ignoresCcState_timeoutRetry .same fun _ _ => .rfl)
      fun _ _ => .rfl
  | read => exact fun _ _ => rfl

/-! ### The statement -/

/-- The outcome of an operation that ignores `ccState`, from a state with another value of it. -/
def outcomeWithCcState (x : U32) : Result → Result
  | .next t => .next (withCcState x t)
  | .fault f => .fault f
  | .refused r => .refused r

theorem exec_withCcState (i : Instr) (x : U32) (s : State) :
    exec i (withCcState x s) = outcomeWithCcState x (exec i s) := by
  have completes {f : State → State} (hf : IgnoresCcState f) :
      Host.Outcome.next (f (withCcState x s)) = outcomeWithCcState x (.next (f s)) :=
    congrArg Host.Outcome.next (hf x s)
  have adcStep (p : AdcPhase) :
      exec (adcStepOf p) (withCcState x s) = outcomeWithCcState x (exec (adcStepOf p) s) := by
    rw [exec_adcStepOf, exec_adcStepOf, ignoresCcState_adcTaskBody p x s]
    by_cases hp : s.arch.adc.phase = p <;> simp [inPhase, withCcState_arch, outcomeWithCcState, hp]
  cases i with
  | adcConfigure => exact adcStep .configure
  | adcDelay => exact adcStep .delay
  | adcWaitDrdy => exact adcStep .waitDrdy
  | adcRead => exact adcStep .read
  | tick => exact completes ignoresCcState_tick
  | setState => exact completes (ignoresCcState_setState _ _)
  | setOutput => exact completes (ignoresCcState_setOutput _ _)
  | calStep | calPass => exact completes (ignoresCcState_calStep _ _ _ _)
  | calAbort => exact completes (ignoresCcState_calAbort _ _)
  | setUserCalibration => exact completes (ignoresCcState_setUserCalibration _ _ _ _)
  | ads1118CfgNormal | ads1118CfgFast | ads1118CfgTemp =>
    exact completes (ignoresCcState_spiWrite16 _)
  | _ => rfl

/-- Settles O19: every function that gives an operation its meaning ignores the input. -/
theorem contactorCheckStateIsNeverRead : Obligations.ContactorCheckStateIsNeverRead := by
  unfold Obligations.ContactorCheckStateIsNeverRead
  intro i s x other
  have h := exec_withCcState i x s
  cases hexec : exec i s <;> rw [hexec] at h <;> exact h

end Sys2Proof.Proofs
end

section
/-!
SUPPORT. The two resets in closed form (70_reset_and_hazards.md rules R260, R261), and the statements on
the values they set.
-/

namespace Sys2Proof.Proofs

open Sys2Proof Sys2Proof.Machine

/-! ### The loads -/

theorem loadFactory_eq (s : State) : loadFactory Config.params s = Spec.factoryLoaded s := by
  unfold loadFactory persistLoadFactory Spec.factoryLoaded
  cases s.pages.factory.or s.env.inputs.factoryPage with
  | none => rfl
  | some page => by_cases hm : page.magic = Config.params.magic <;> simp [hm] <;> rfl

theorem loadUser_eq (s : State) : loadUser Config.params s = Spec.userLoaded s := by
  unfold loadUser persistLoadUser Spec.userLoaded
  cases s.pages.user.or s.env.inputs.userPage with
  | none => rfl
  | some page => by_cases hm : page.magic = Config.params.magic <;> simp [hm] <;> rfl

/-! ### The resets -/

/-- The three output events of a reset, in their order (R264). -/
theorem resetOutputs_trace (s : State) :
    (resetOutputs s).trace = s.trace ++ [.pwmSet 1000, .relaySet false, .lockRequest false] := by
  simp [resetOutputs]

/-- Settles O57: every field as the reset writes it; the windows and the queue have their shape, and the
two loads are the spec's. -/
theorem powerOnResetValues : Obligations.PowerOnResetValues := by
  unfold Obligations.PowerOnResetValues
  intro s
  have hsafe := safe_resetPowerOn s
  obtain ⟨hcpLen, hcpPos, -⟩ := hsafe.cpWindow
  obtain ⟨hppLen, hppPos, -⟩ := hsafe.ppWindow
  obtain ⟨hccLen, hccPos, -⟩ := hsafe.ccWindow
  obtain ⟨hqueueLen, hqueuePos⟩ := hsafe.ccQueue
  exact ⟨resetPowerOn Config.params s, rfl, rfl, rfl, rfl, ⟨_, rfl, rfl, hcpLen, hcpPos⟩,
    ⟨_, rfl, rfl, hppLen, hppPos⟩, rfl, hccLen, hccPos, rfl, rfl, rfl, rfl, hqueueLen, hqueuePos,
    loadFactory_eq s, loadUser_eq s, rfl, rfl, rfl, resetOutputs_trace _, rfl, rfl, rfl, rfl, rfl⟩

/-- Settles O58: the reset writes neither calibration set, and every other field as at power-on. -/
theorem supervisingResetKeepsCalibration : Obligations.SupervisingResetKeepsCalibration := by
  unfold Obligations.SupervisingResetKeepsCalibration
  intro s
  exact ⟨resetSupervising Config.params s, rfl, rfl, rfl, rfl, rfl, rfl, ⟨_, rfl, rfl⟩, ⟨_, rfl, rfl⟩,
    rfl, rfl, rfl, rfl, rfl, rfl, rfl, resetOutputs_trace _, rfl, rfl, rfl, rfl⟩

end Sys2Proof.Proofs
end

section
/-!
SUPPORT. What an operation does outside the state record: events, pages and answers (20_memory.md rules
R51 and R59, 60_exceptions.md rules R253 and R256). After these, the statement that it is all recorded, and
the round trip of the user calibration through its page.
-/

namespace Sys2Proof.Proofs

open Sys2Proof Sys2Proof.Machine

/-! ### Recorded effects -/

/-- The factory page is as before, or holds what a save event of `ev` records. -/
def FactoryPageRecorded (before after : Pages) (ev : List Event) : Prop :=
  after.factory = before.factory ∨ ∃ params,
    after.factory = some ⟨Config.params.magic, params⟩
      ∧ .persistSaved (Config.params.pageNumber .factory) (.factory params) ∈ ev

/-- The user page is as before, or holds what a save event of `ev` records. -/
def UserPageRecorded (before after : Pages) (ev : List Event) : Prop :=
  after.user = before.user ∨ ∃ active params,
    after.user = some ⟨Config.params.magic, active, params⟩
      ∧ .persistSaved (Config.params.pageNumber .user) (.user ⟨active, params⟩) ∈ ev

theorem FactoryPageRecorded.trans {p q r : Pages} {ev ev' : List Event}
    (h : FactoryPageRecorded p q ev) (h' : FactoryPageRecorded q r ev') :
    FactoryPageRecorded p r (ev ++ ev') := by
  rcases h' with hsame | ⟨params, hpage, hev⟩
  · rcases h with hsame' | ⟨params, hpage, hev⟩
    · exact .inl (hsame.trans hsame')
    · exact .inr ⟨params, hsame.trans hpage, List.mem_append_left _ hev⟩
  · exact .inr ⟨params, hpage, List.mem_append_right _ hev⟩

theorem UserPageRecorded.trans {p q r : Pages} {ev ev' : List Event}
    (h : UserPageRecorded p q ev) (h' : UserPageRecorded q r ev') :
    UserPageRecorded p r (ev ++ ev') := by
  rcases h' with hsame | ⟨active, params, hpage, hev⟩
  · rcases h with hsame' | ⟨active, params, hpage, hev⟩
    · exact .inl (hsame.trans hsame')
    · exact .inr ⟨active, params, hsame.trans hpage, List.mem_append_left _ hev⟩
  · exact .inr ⟨active, params, hpage, List.mem_append_right _ hev⟩

/-- From `s` to `t` the trace only grew and records every page saved; nothing was answered, and ENV's
answers and the generic config page are as before. -/
structure EffectsRecorded (s t : State) : Prop where
  events : ∃ ev, t.trace = s.trace ++ ev ∧ FactoryPageRecorded s.pages t.pages ev
    ∧ UserPageRecorded s.pages t.pages ev
  config : t.pages.config = s.pages.config
  env : t.env = s.env
  responses : t.responses = s.responses

namespace EffectsRecorded

/-- Events alone record themselves. -/
theorem of_append {s t : State} {ev : List Event} (htrace : t.trace = s.trace ++ ev)
    (hpages : t.pages = s.pages) (henv : t.env = s.env) (hresponses : t.responses = s.responses) :
    EffectsRecorded s t where
  events := ⟨ev, htrace, .inl (by rw [hpages]), .inl (by rw [hpages])⟩
  config := by rw [hpages]
  env := henv
  responses := hresponses

theorem refl (s : State) : EffectsRecorded s s :=
  of_append (List.append_nil s.trace).symm rfl rfl rfl

theorem trans {s t u : State} (h : EffectsRecorded s t) (h' : EffectsRecorded t u) :
    EffectsRecorded s u := by
  obtain ⟨ev, htrace, hfactory, huser⟩ := h.events
  obtain ⟨ev', htrace', hfactory', huser'⟩ := h'.events
  exact {
    events := ⟨ev ++ ev', by rw [htrace', htrace, List.append_assoc], hfactory.trans hfactory',
      huser.trans huser'⟩
    config := h'.config.trans h.config
    env := h'.env.trans h.env
    responses := h'.responses.trans h.responses }

end EffectsRecorded

/-! ### The shared operations -/

theorem effectsRecorded_emit (s : State) (e : Event) : EffectsRecorded s (s.emit e) :=
  .of_append (emit_trace s e) rfl rfl rfl

theorem effectsRecorded_csAssert (s : State) : EffectsRecorded s (csAssert s) :=
  .of_append (csAssert_trace s) rfl rfl rfl

theorem effectsRecorded_csDeassert (s : State) : EffectsRecorded s (csDeassert s) :=
  .of_append (csDeassert_trace s) rfl rfl rfl

theorem effectsRecorded_spiWrite16 (w : U16) (s : State) : EffectsRecorded s (spiWrite16 w s) := by
  obtain ⟨c, d, h⟩ := spiWrite16_frame w s
  rw [h]
  exact .of_append rfl rfl rfl rfl

theorem effectsRecorded_spiReturns (w : U16) (s : State) : EffectsRecorded s (spiReturns w s) :=
  .of_append rfl rfl rfl rfl

theorem effectsRecorded_setOutput (duty : U16) (req : Bool) (s : State) :
    EffectsRecorded s (setOutput duty req s) := by
  obtain ⟨ev, htrace, -⟩ := setOutput_trace duty req s
  exact .of_append htrace (setOutput_pages ..) (setOutput_env ..) (setOutput_responses ..)

theorem effectsRecorded_setState (new : ChargeState) (t : U32) (s : State) :
    EffectsRecorded s (setState new t s) := by
  obtain ⟨sm, ev, h, -⟩ := setState_frame new t s
  rw [h]
  exact .of_append rfl rfl rfl rfl

theorem effectsRecorded_actuate (st : ChargeState) (ma : Nat) (s : State) :
    EffectsRecorded s (actuate st ma s) := by
  rw [actuate_eq]
  exact { effectsRecorded_setOutput .. with }

theorem effectsRecorded_tick (s : State) : EffectsRecorded s (tick s) := by
  rcases tick_cases s with h | ⟨new, g, ev, u, rfl, -, h⟩ <;> rw [h]
  · exact .refl s
  · refine .trans ?_ ((effectsRecorded_setState ..).trans (effectsRecorded_actuate ..))
    exact .of_append rfl rfl rfl rfl

/-- The save of the factory page is in the trace with the set it saved. -/
theorem effectsRecorded_persistSaveFactory (s : State) :
    EffectsRecorded s (persistSaveFactory Config.params s) where
  events := ⟨_, rfl, .inr ⟨_, rfl, List.mem_singleton_self _⟩, .inl rfl⟩
  config := rfl
  env := rfl
  responses := rfl

/-- The save of the user page is in the trace with the set it saved. -/
theorem effectsRecorded_persistSaveUser (s : State) :
    EffectsRecorded s (persistSaveUser Config.params s) where
  events := ⟨_, rfl, .inl rfl, .inr ⟨_, _, rfl, List.mem_singleton_self _⟩⟩
  config := rfl
  env := rfl
  responses := rfl

/-! ### The ADC task and the factory session -/

theorem effectsRecorded_timeoutRetry (s : State) : EffectsRecorded s (timeoutRetry s) :=
  { (((effectsRecorded_emit s _).trans (effectsRecorded_csDeassert _)).trans
      (effectsRecorded_csAssert _)).trans (effectsRecorded_spiWrite16 s.arch.adc.cfg _) with }

theorem effectsRecorded_adcTaskBody (p : AdcPhase) (s : State) :
    EffectsRecorded s (adcTaskBody p s) := by
  cases p with
  | configure =>
    exact { ((effectsRecorded_csAssert s).trans (effectsRecorded_spiWrite16 _ _)).trans
      (effectsRecorded_csDeassert _) with }
  | delay =>
    simp only [adcTaskBody, adcDelay]
    split
    · exact .refl s
    · exact { effectsRecorded_csAssert s with }
  | waitDrdy =>
    simp only [adcTaskBody, adcWaitDrdy]
    split_ifs
    · exact { EffectsRecorded.refl s with }
    · exact effectsRecorded_timeoutRetry s
    · exact .refl s
  | read =>
    exact { (effectsRecorded_spiReturns s.env.inputs.spiWord s).trans
      (effectsRecorded_csDeassert _) with }

theorem effectsRecorded_sessionStep (step : U8) (value : I16) (s : State) :
    EffectsRecorded s (sessionStep Config.params step value s) := by
  unfold sessionStep
  split_ifs
  · exact { EffectsRecorded.refl s with }
  · exact { effectsRecorded_setOutput _ _ (s.withFactory _) with }
  · exact { effectsRecorded_setOutput _ _ (s.withFactory _) with }
  · exact { (effectsRecorded_setOutput _ _ (s.withFactory _)).trans
      (effectsRecorded_persistSaveFactory _) with }

/-! ### Every operation -/

/-- From `s` to `t` effects are recorded, and at most one answer follows them. -/
def EffectsThenAnswer (s t : State) : Prop :=
  ∃ u, EffectsRecorded s u ∧ (t = u ∨ ∃ r, t = u.respond r)

theorem EffectsThenAnswer.silent {s t : State} (h : EffectsRecorded s t) : EffectsThenAnswer s t :=
  ⟨t, h, .inl rfl⟩

theorem EffectsThenAnswer.answering {s u : State} (h : EffectsRecorded s u) (r : Response) :
    EffectsThenAnswer s (u.respond r) :=
  ⟨u, h, .inr ⟨r, rfl⟩⟩

theorem effectsThenAnswer_calStep (step : U8) (password : U32) (value : I16) (s : State) :
    EffectsThenAnswer s (calStep Config.params step password value s) := by
  unfold calStep
  split
  · exact .answering (effectsRecorded_sessionStep step value s) _
  · exact .answering (.refl s) _

theorem effectsThenAnswer_calAbort (password : U32) (s : State) :
    EffectsThenAnswer s (calAbort Config.params password s) := by
  unfold calAbort
  split
  · have aborted : EffectsRecorded s
        ((setOutput Config.kDutyFull false (s.withFactory (loadFactory Config.params s))).withCalStep
          0) :=
      { effectsRecorded_setOutput _ _ (s.withFactory _) with }
    exact .answering aborted _
  · exact .answering (.refl s) _

theorem effectsThenAnswer_setUserCalibration (password : U32) (active : Bool) (p : CalParams)
    (s : State) :
    EffectsThenAnswer s (setUserCalibration Config.params password active p s) := by
  unfold setUserCalibration
  split
  · have saved : EffectsRecorded s (persistSaveUser Config.params (s.withUser ⟨active, p⟩)) :=
      { effectsRecorded_persistSaveUser (s.withUser _) with }
    exact .answering saved _
  · exact .answering (.refl s) _

theorem effectsThenAnswer_exec {i : Instr} {s t : State} (h : exec i s = .next t) :
    EffectsThenAnswer s t := by
  have adcStep (p : AdcPhase) (h : exec (adcStepOf p) s = .next t) : EffectsThenAnswer s t := by
    rw [(adcStepOf_next h).2]
    exact .silent (effectsRecorded_adcTaskBody p s)
  cases i with
  | adcConfigure => exact adcStep .configure h
  | adcDelay => exact adcStep .delay h
  | adcWaitDrdy => exact adcStep .waitDrdy h
  | adcRead => exact adcStep .read h
  | calStep | calPass => cases h; exact effectsThenAnswer_calStep ..
  | calAbort => cases h; exact effectsThenAnswer_calAbort ..
  | setUserCalibration => cases h; exact effectsThenAnswer_setUserCalibration ..
  | tick => cases h; exact .silent (effectsRecorded_tick s)
  | setState => cases h; exact .silent (effectsRecorded_setState ..)
  | setOutput => cases h; exact .silent (effectsRecorded_setOutput ..)
  | ads1118CfgNormal | ads1118CfgFast | ads1118CfgTemp =>
    cases h; exact .silent (effectsRecorded_spiWrite16 ..)
  | ads1118Sample word => cases h; exact .answering (effectsRecorded_spiReturns word s) _
  | resetPowerOn | resetSupervising =>
    cases h; exact .silent (.of_append (resetOutputs_trace _) rfl rfl rfl)
  | setMaxCurrent => cases h; exact .silent (effectsRecorded_emit s _)
  | startCharging | stopCharging => cases h; exact .silent { effectsRecorded_emit s _ with }
  | updateCp | updatePp | ccUpdate | calSequence | sample =>
    cases h; exact .silent { EffectsRecorded.refl s with }
  | getState | getAdcValues | getVoltages | getResistances | getPpCurrent | getCalibration
  | calPassword => cases h; exact .answering (.refl s) _

/-- Settles O14: an operation's effects are recorded, and an answer appends to the responses only. -/
theorem outsideEffectsAreRecorded : Obligations.OutsideEffectsAreRecorded := by
  unfold Obligations.OutsideEffectsAreRecorded
  intro i s t h
  obtain ⟨u, hu, rfl | ⟨r, rfl⟩⟩ := effectsThenAnswer_exec h
  · exact ⟨hu.events, ⟨[], by rw [hu.responses, List.append_nil], by simp⟩, hu.env, hu.config⟩
  · exact ⟨hu.events, ⟨[r], by rw [respond_responses, hu.responses], by simp⟩, hu.env, hu.config⟩

/-! ### The user calibration -/

theorem exec_setUserCalibration_accepted (active : Bool) {p : CalParams} (hdiv : p.div ≠ 0)
    (s : State) :
    exec (.setUserCalibration Config.params.userCalPassword active p) s
      = .next ((persistSaveUser Config.params (s.withUser ⟨active, p⟩)).respond (.ok true)) :=
  congrArg _ (if_pos (decide_eq_true ⟨rfl, hdiv⟩))

/-- A load of a user page that the block saved answers the saved set, whatever ENV holds (R59). -/
theorem loadUser_of_saved {P : Params} {s : State} {active : Bool} {p : CalParams}
    (hpage : s.pages.user = some ⟨P.magic, active, p⟩) (hdiv : p.div ≠ 0) :
    loadUser P s = ⟨active, p⟩ := by
  have hload : persistLoadUser P s = some ⟨P.magic, active, p⟩ := by simp [persistLoadUser, hpage]
  rw [loadUser, hload]
  exact if_pos hdiv

/-- The writes between the reset's start and its load of the user page leave the page alone. -/
theorem resetPowerOn_arch_user (P : Params) (s : State) :
    (resetPowerOn P s).arch.user = loadUser P s := rfl

/-- An inactive user set makes the effective set the factory set (R34). -/
theorem calibrationOf_effective_of_inactive {a : Arch} (h : a.user.active = false) :
    calibrationOf .effective a = .calibration false a.factory := by
  simp [calibrationOf, eff, h]

theorem respond_respond_responses (s : State) (r r' : Response) :
    ((s.respond r).respond r').responses = s.responses ++ [r, r'] :=
  List.append_assoc ..

/-- Settles O27: the accepted command leaves the set in `S.user` and in its page, and nothing else that
a GET_CALIBRATION or the power-on load reads. -/
theorem userCalibrationRoundTrip : Obligations.UserCalibrationRoundTrip := by
  unfold Obligations.UserCalibrationRoundTrip
  intro active p s hdiv
  refine ⟨_, exec_setUserCalibration_accepted active hdiv s,
    ⟨_, rfl, respond_respond_responses ..⟩, ⟨_, rfl, respond_respond_responses ..⟩,
    fun hinactive => ⟨_, rfl, ?_⟩, _, rfl, ?_⟩
  · rw [respond_respond_responses, calibrationOf_effective_of_inactive hinactive]
    rfl
  · rw [resetPowerOn_arch_user]
    exact loadUser_of_saved rfl hdiv

end Sys2Proof.Proofs
end

section
/-!
SUPPORT. Words and the bytes they take, the fields of a payload, configuration words and session passwords
(30_encoding.md rules R63, R66 to R68, R70): what is read from an encoded field, and what is written again
from a field read.
-/

namespace Sys2Proof.Proofs

open Sys2Proof Sys2Proof.Machine

/-! ### Words and their bytes (R67, R70) -/

@[simp] theorem le16_byteOf (w : BitVec 16) : le16 (byteOf w 0) (byteOf w 1) = w :=
  BitVec.extractLsb'_append_extractLsb' (w := 8) (len := 8)

@[simp] theorem le32_byteOf (w : BitVec 32) :
    le32 (byteOf w 0) (byteOf w 1) (byteOf w 2) (byteOf w 3) = w := by
  have join (k n : Nat) : w.extractLsb' (k + 8) n ++ w.extractLsb' k 8 = w.extractLsb' k (n + 8) :=
    BitVec.extractLsb'_append_extractLsb'_eq_extractLsb' rfl
  calc le32 (byteOf w 0) (byteOf w 1) (byteOf w 2) (byteOf w 3)
    _ = w.extractLsb' 16 16 ++ byteOf w 1 ++ byteOf w 0 :=
      congrArg (· ++ byteOf w 1 ++ byteOf w 0) (join 16 8)
    _ = w.extractLsb' 8 24 ++ byteOf w 0 := congrArg (· ++ byteOf w 0) (join 8 16)
    _ = w := (join 0 24).trans BitVec.extractLsb'_eq_self

@[simp] theorem bytes16_le16 (b0 b1 : Byte) : bytes16 (le16 b0 b1) = [b0, b1] := by
  have low : byteOf (le16 b0 b1) 0 = b0 := BitVec.extractLsb'_append_eq_right
  have high : byteOf (le16 b0 b1) 1 = b1 := BitVec.extractLsb'_append_eq_left
  rw [bytes16, low, high]

@[simp] theorem bytes32_le32 (b0 b1 b2 b3 : Byte) :
    bytes32 (le32 b0 b1 b2 b3) = [b0, b1, b2, b3] := by
  have low {n : Nat} (hi : BitVec n) (lo : Byte) : (hi ++ lo).extractLsb' 0 8 = lo :=
    BitVec.extractLsb'_append_eq_right
  have high {n : Nat} (hi : BitVec n) (lo : Byte) (k : Nat) :
      (hi ++ lo).extractLsb' (k + 8) 8 = hi.extractLsb' k 8 := by
    rw [BitVec.extractLsb'_append_eq_of_le (Nat.le_add_left 8 k), Nat.add_sub_cancel]
  have byte1 : byteOf (le32 b0 b1 b2 b3) 1 = b1 := (high _ b0 0).trans (low _ b1)
  have byte2 : byteOf (le32 b0 b1 b2 b3) 2 = b2 :=
    (high _ b0 8).trans ((high _ b1 0).trans (low _ b2))
  have byte3 : byteOf (le32 b0 b1 b2 b3) 3 = b3 :=
    (high _ b0 16).trans ((high _ b1 8).trans ((high _ b2 0).trans BitVec.extractLsb'_eq_self))
  rw [bytes32, byte1, byte2, byte3]
  exact congrArg (· :: _) (low _ b0)

/-- A 16-bit word of the SPI is its two bytes, the high one first (R52). -/
@[simp] theorem byteOf_append_byteOf (w : U16) : byteOf w 1 ++ byteOf w 0 = w := le16_byteOf w

@[simp] theorem spiBytes_append (hi lo : Byte) : spiBytes (hi ++ lo) = [hi, lo] :=
  congrArg List.reverse (bytes16_le16 lo hi)

/-! ### The fields of a payload (R67, R68) -/

theorem byteAt_cons_drop {pay : List Byte} {k : Nat} (h : k < pay.length) :
    byteAt pay k :: pay.drop (k + 1) = pay.drop k := by
  rw [byteAt, List.getD_eq_getElem _ _ h, List.drop_eq_getElem_cons h]

theorem bytes16_half_append {pay : List Byte} {k : Nat} (h : k + 2 ≤ pay.length) :
    bytes16 (half pay k) ++ pay.drop (k + 2) = pay.drop k := by
  rw [half, bytes16_le16, ← byteAt_cons_drop (show k < pay.length by omega),
    ← byteAt_cons_drop (show k + 1 < pay.length by omega)]
  rfl

/-- The two bytes at offset `k` are those of the field there. -/
theorem take_two_drop {pay : List Byte} {k : Nat} (h : k + 2 ≤ pay.length) :
    (pay.drop k).take 2 = bytes16 (half pay k) := by
  rw [← bytes16_half_append h]
  rfl

theorem bytes32_word_append {pay : List Byte} {k : Nat} (h : k + 4 ≤ pay.length) :
    bytes32 (word pay k) ++ pay.drop (k + 4) = pay.drop k := by
  rw [word, bytes32_le32, ← byteAt_cons_drop (show k < pay.length by omega),
    ← byteAt_cons_drop (show k + 1 < pay.length by omega),
    ← byteAt_cons_drop (show k + 2 < pay.length by omega),
    ← byteAt_cons_drop (show k + 3 < pay.length by omega)]
  rfl

/-- Consecutive 16-bit fields, read from offset `k` on. -/
theorem flatMap_bytes16_half_append {pay : List Byte} (n : Nat) {k : Nat}
    (h : k + 2 * n ≤ pay.length) :
    (List.ofFn fun i : Fin n => half pay (k + 2 * i.val)).flatMap bytes16 ++ pay.drop (k + 2 * n)
      = pay.drop k := by
  induction n generalizing k with
  | zero => rfl
  | succ n ih =>
    have hshift : (fun i : Fin n => half pay (k + 2 * i.succ.val))
        = fun i : Fin n => half pay (k + 2 + 2 * i.val) := by
      funext i
      rw [Fin.val_succ]
      congr 1
      omega
    rw [List.ofFn_succ, hshift, List.flatMap_cons, List.append_assoc,
      show k + 2 * (n + 1) = k + 2 + 2 * n by omega, ih (by omega)]
    exact bytes16_half_append (by omega)

/-- The 36 bytes of a parameter set are those of the set read from them. -/
theorem bytesOfParams_paramsAt_append {pay : List Byte} {k : Nat} (h : k + 36 ≤ pay.length) :
    bytesOfParams (paramsAt pay k) ++ pay.drop (k + 36) = pay.drop k := by
  simp only [bytesOfParams, paramsAt, Vector.toList_ofFn, List.append_assoc]
  rw [flatMap_bytes16_half_append 14 (k := k + 8) (by omega),
    bytes16_half_append (k := k + 6) (by omega), bytes16_half_append (k := k + 4) (by omega),
    bytes16_half_append (k := k + 2) (by omega), bytes16_half_append (by omega)]

theorem half_append_right (pre pay : List Byte) (k : Nat) :
    half (pre ++ pay) (pre.length + k) = half pay k := by
  have hbyte (j : Nat) : byteAt (pre ++ pay) (pre.length + j) = byteAt pay j := by
    rw [byteAt, List.getD_append_right _ _ _ _ (Nat.le_add_right ..), Nat.add_sub_cancel_left]
    rfl
  rw [half, Nat.add_assoc, hbyte, hbyte, half]

theorem half_bytes16_append (w : BitVec 16) (pay : List Byte) : half (bytes16 w ++ pay) 0 = w :=
  le16_byteOf w

/-- Field `i` of consecutive 16-bit fields. -/
theorem half_flatMap_bytes16 (ws : List (BitVec 16)) (i : Nat) (h : i < ws.length) :
    half (ws.flatMap bytes16) (2 * i) = ws[i] := by
  induction ws generalizing i with
  | nil => exact absurd h (Nat.not_lt_zero i)
  | cons w ws ih =>
    rw [List.flatMap_cons]
    cases i with
    | zero => exact half_bytes16_append w _
    | succ i =>
      have hrest := half_append_right (bytes16 w) (ws.flatMap bytes16) (2 * i)
      rw [show 2 * (i + 1) = (bytes16 w).length + 2 * i by simp [bytes16]; omega, hrest]
      exact ih i (Nat.lt_of_succ_lt_succ h)

/-- Table entry `i` of a parameter set stands behind its four other fields. -/
theorem half_bytesOfParams_table (p : CalParams) (i : Fin 14) :
    half (bytesOfParams p) (8 + 2 * i.val) = p.ref880[i] :=
  calc half (bytesOfParams p) (8 + 2 * i.val)
    _ = half (p.ref880.toList.flatMap bytes16) (2 * i.val) :=
      half_append_right (bytes16 p.mul ++ bytes16 p.div ++ bytes16 p.diff ++ bytes16 p.ref2700) ..
    _ = p.ref880.toList[i.val]'(by simp) := half_flatMap_bytes16 ..
    _ = p.ref880[i] := by simp

/-- A parameter set is read back from its bytes, wherever they stand. -/
theorem paramsAt_bytesOfParams (pre : List Byte) (p : CalParams) :
    paramsAt (pre ++ bytesOfParams p) pre.length = p := by
  have hfield (k : Nat) : half (pre ++ bytesOfParams p) (pre.length + k) = half (bytesOfParams p) k :=
    half_append_right pre _ k
  have hmul : half (pre ++ bytesOfParams p) pre.length = p.mul := (hfield 0).trans (le16_byteOf _)
  have hdiv : half (bytesOfParams p) 2 = p.div := le16_byteOf _
  have hdiff : half (bytesOfParams p) 4 = p.diff := le16_byteOf _
  have href : half (bytesOfParams p) 6 = p.ref2700 := le16_byteOf _
  have htable : (Vector.ofFn fun i : Fin 14 =>
      half (pre ++ bytesOfParams p) (pre.length + 8 + 2 * i.val)) = p.ref880 := by
    refine Vector.ext fun i hi => ?_
    rw [Vector.getElem_ofFn, Nat.add_assoc, hfield]
    exact half_bytesOfParams_table p ⟨i, hi⟩
  rw [paramsAt, hmul, hfield, hdiv, hfield, hdiff, hfield, href, htable]

/-- A `bool` field holds 0 or 1 (R67, R71). -/
theorem boolOf_eq_ok_iff {b : Byte} {v : Bool} : boolOf b = .ok v ↔ b = byteOfBool v := by
  constructor
  · intro h
    unfold boolOf at h
    split_ifs at h with h0 h1 <;> cases h
    exacts [h0, h1]
  · rintro rfl
    cases v <;> rfl

/-- The selector of GET_CALIBRATION is 0, 1 or 2 (R68, R71). -/
theorem selectorOf_eq_ok_iff {b : Byte} {which : CalSet} :
    selectorOf b = .ok which ↔ b = byteOfSelector which := by
  constructor
  · intro h
    unfold selectorOf at h
    split_ifs at h with h0 h1 h2 <;> cases h
    exacts [h0, h1, h2]
  · rintro rfl
    cases which <;> rfl

theorem exists_eq_byteOfBool_iff {b : Byte} : (∃ v, b = byteOfBool v) ↔ b.toNat ≤ 1 := by
  constructor
  · rintro ⟨v, rfl⟩
    cases v <;> decide
  · intro h
    have : b = 0 ∨ b = 1 := by bv_omega
    rcases this with rfl | rfl
    exacts [⟨false, rfl⟩, ⟨true, rfl⟩]

theorem exists_eq_byteOfSelector_iff {b : Byte} : (∃ which, b = byteOfSelector which) ↔ b.toNat ≤ 2 := by
  constructor
  · rintro ⟨which, rfl⟩
    cases which <;> decide
  · intro h
    have : b = 0 ∨ b = 1 ∨ b = 2 := by bv_omega
    rcases this with rfl | rfl | rfl
    exacts [⟨.factory, rfl⟩, ⟨.user, rfl⟩, ⟨.effective, rfl⟩]

/-! ### Configuration words (R60, R63) -/

/-- A configuration word by its `SS`, `MUX` and `PGA` fields and the nine bits below them. -/
def configWord (ss : BitVec 1) (mux pga : BitVec 3) (low : BitVec 9) : U16 := ss ++ mux ++ pga ++ low

theorem cfgNormalWord_eq (mux pga : BitVec 3) : cfgNormalWord mux pga = configWord 1 mux pga 0x10B :=
  rfl

theorem cfgFastWord_eq (mux pga : BitVec 3) : cfgFastWord mux pga = configWord 0 mux pga 0x04B := rfl

theorem cfgTempWord_eq (pga : BitVec 3) : cfgTempWord pga = configWord 1 0 pga 0x11B := rfl

/-- The table of R63, which spells every field out, builds the same words. -/
theorem configWord_of_fields (ss : BitVec 1) (mux pga : BitVec 3) (mode : BitVec 1) (dr : BitVec 3)
    (ts pull : BitVec 1) (nop : BitVec 2) (reserved : BitVec 1) :
    (ss ++ mux ++ pga ++ mode ++ dr ++ ts ++ pull ++ nop ++ reserved : U16)
      = configWord ss mux pga (mode ++ dr ++ ts ++ pull ++ nop ++ reserved) := by
  simp only [configWord, BitVec.append_assoc (w₁ := 7), BitVec.cast_eq]

theorem configWord_above_low (ss : BitVec 1) (mux pga : BitVec 3) (low : BitVec 9) (k len : Nat) :
    (configWord ss mux pga low).extractLsb' (k + 9) len = (ss ++ mux ++ pga).extractLsb' k len := by
  rw [configWord, BitVec.extractLsb'_append_eq_of_le (v := 7) (Nat.le_add_left 9 k),
    Nat.add_sub_cancel]

theorem configWord_above_pga (ss : BitVec 1) (mux pga : BitVec 3) (low : BitVec 9) (k len : Nat) :
    (configWord ss mux pga low).extractLsb' (k + 12) len = (ss ++ mux).extractLsb' k len := by
  rw [configWord_above_low ss mux pga low (k + 3),
    BitVec.extractLsb'_append_eq_of_le (v := 4) (Nat.le_add_left 3 k), Nat.add_sub_cancel]

@[simp] theorem configWord_pga (ss : BitVec 1) (mux pga : BitVec 3) (low : BitVec 9) :
    (configWord ss mux pga low).extractLsb' 9 3 = pga :=
  (configWord_above_low ss mux pga low 0 3).trans BitVec.extractLsb'_append_eq_right

@[simp] theorem configWord_mux (ss : BitVec 1) (mux pga : BitVec 3) (low : BitVec 9) :
    (configWord ss mux pga low).extractLsb' 12 3 = mux :=
  (configWord_above_pga ss mux pga low 0 3).trans BitVec.extractLsb'_append_eq_right

@[simp] theorem configWord_ss (ss : BitVec 1) (mux pga : BitVec 3) (low : BitVec 9) :
    (configWord ss mux pga low).extractLsb' 15 1 = ss :=
  (configWord_above_pga ss mux pga low 3 1).trans BitVec.extractLsb'_append_eq_left

@[simp] theorem configWord_ss_mux (ss : BitVec 1) (mux pga : BitVec 3) (low : BitVec 9) :
    (configWord ss mux pga low).extractLsb' 12 4 = ss ++ mux :=
  (configWord_above_pga ss mux pga low 0 4).trans BitVec.extractLsb'_eq_self

/-- Every field below `PGA` is one of the nine low bits. -/
theorem configWord_low (ss : BitVec 1) (mux pga : BitVec 3) (low : BitVec 9) {start len : Nat}
    (h : start + len ≤ 9) :
    (configWord ss mux pga low).extractLsb' start len = low.extractLsb' start len :=
  BitVec.extractLsb'_append_eq_of_add_le h

theorem configWord_eta (w : U16) :
    configWord (w.extractLsb' 15 1) (w.extractLsb' 12 3) (w.extractLsb' 9 3) (w.extractLsb' 0 9) = w := by
  have join (k m n : Nat) : w.extractLsb' (k + m) n ++ w.extractLsb' k m = w.extractLsb' k (n + m) :=
    BitVec.extractLsb'_append_extractLsb'_eq_extractLsb' rfl
  calc configWord (w.extractLsb' 15 1) (w.extractLsb' 12 3) (w.extractLsb' 9 3) (w.extractLsb' 0 9)
    _ = w.extractLsb' 12 4 ++ w.extractLsb' 9 3 ++ w.extractLsb' 0 9 :=
      congrArg (· ++ w.extractLsb' 9 3 ++ w.extractLsb' 0 9) (join 12 3 1)
    _ = w.extractLsb' 9 7 ++ w.extractLsb' 0 9 := congrArg (· ++ w.extractLsb' 0 9) (join 9 3 4)
    _ = w := (join 0 9 7).trans BitVec.extractLsb'_eq_self

/-- One pattern of R63: what it takes for a word of given fields to have it. -/
theorem decodeConfigWord_configWord (ss : BitVec 1) (mux pga : BitVec 3) (low : BitVec 9) :
    decodeConfigWord (configWord ss mux pga low) =
      if low = 0x10B ∧ ss = 1 then .ok (.ads1118CfgNormal mux pga)
      else if low = 0x04B ∧ ss = 0 then .ok (.ads1118CfgFast mux pga)
      else if low = 0x11B ∧ ss ++ mux = 0b1000#4 then .ok (.ads1118CfgTemp pga)
      else .error .notAConfigWord := by
  have hlow : (configWord ss mux pga low).extractLsb' 0 9 = low :=
    (configWord_low ss mux pga low (Nat.le_refl 9)).trans BitVec.extractLsb'_eq_self
  rw [decodeConfigWord, hlow, configWord_ss, configWord_mux, configWord_pga, configWord_ss_mux]
  rfl

/-- The decoder accepts the words of the three patterns and no other. -/
theorem decodeConfigWord_eq_ok_iff {w : U16} {i : Instr} :
    decodeConfigWord w = .ok i ↔
      (∃ mux pga, w = cfgNormalWord mux pga ∧ i = .ads1118CfgNormal mux pga) ∨
      (∃ mux pga, w = cfgFastWord mux pga ∧ i = .ads1118CfgFast mux pga) ∨
      ∃ pga, w = cfgTempWord pga ∧ i = .ads1118CfgTemp pga := by
  constructor
  · intro h
    obtain ⟨ss, mux, pga, low, rfl⟩ : ∃ ss mux pga low, w = configWord ss mux pga low :=
      ⟨_, _, _, _, (configWord_eta w).symm⟩
    rw [decodeConfigWord_configWord] at h
    split_ifs at h with hnormal hfast htemp <;> cases h
    · obtain ⟨rfl, rfl⟩ := hnormal
      exact .inl ⟨mux, pga, rfl, rfl⟩
    · obtain ⟨rfl, rfl⟩ := hfast
      exact .inr (.inl ⟨mux, pga, rfl, rfl⟩)
    · obtain ⟨rfl, hmux⟩ := htemp
      obtain ⟨rfl, rfl⟩ : ss = 1 ∧ mux = 0 := by
        revert ss mux
        decide
      exact .inr (.inr ⟨pga, rfl, rfl⟩)
  · rintro (⟨mux, pga, rfl, rfl⟩ | ⟨mux, pga, rfl, rfl⟩ | ⟨pga, rfl, rfl⟩)
    · rw [cfgNormalWord_eq, decodeConfigWord_configWord]
      rfl
    · rw [cfgFastWord_eq, decodeConfigWord_configWord]
      rfl
    · rw [cfgTempWord_eq, decodeConfigWord_configWord]
      rfl

/-! ### Session passwords (R66) -/

/-- The password words are the base's high bits with a step of at most 16 in the low five. -/
theorem decodePassword_eq_ok_iff {w : U32} {i : Instr} :
    decodePassword w = .ok i ↔
      ∃ step : BitVec 5, step.toNat ≤ 16 ∧ w = passwordWord step ∧ i = .calPassword step := by
  constructor
  · intro h
    unfold decodePassword at h
    split_ifs at h with hw
    cases h
    obtain ⟨hbase, hstep⟩ := hw
    refine ⟨_, hstep, ?_, rfl⟩
    rw [passwordWord, ← hbase]
    exact (BitVec.extractLsb'_append_extractLsb' (w := 27) (len := 5)).symm
  · rintro ⟨step, hstep, rfl, rfl⟩
    have hbase : (passwordWord step).extractLsb' 5 27 = (0x0BB03200#32).extractLsb' 5 27 :=
      BitVec.extractLsb'_append_eq_left
    have hlow : (passwordWord step).extractLsb' 0 5 = step := BitVec.extractLsb'_append_eq_right
    rw [decodePassword, hbase, hlow, if_pos ⟨rfl, hstep⟩]

/-- The base's low five bits are clear, so adding a step writes it into them. -/
theorem sessionPassword_eq_passwordWord {n : Nat} (h : n < 32) :
    Spec.sessionPassword n = passwordWord (BitVec.ofNat 5 n) := by
  revert n
  decide

theorem decode_password (w : U32) : decode (.password (bytes32 w)) = decodePassword w :=
  congrArg decodePassword (le32_byteOf w)

theorem decode_spiOut (w : U16) : decode (.spiOut (spiBytes w)) = decodeConfigWord w :=
  congrArg decodeConfigWord (byteOf_append_byteOf w)

theorem decode_spiIn (w : U16) : decode (.spiIn (spiBytes w)) = .ok (.ads1118Sample w) :=
  congrArg (fun x => Except.ok (Instr.ads1118Sample x)) (byteOf_append_byteOf w)

end Sys2Proof.Proofs
end

section
/-!
SUPPORT. Which codes each port's decoder accepts, and that each is the encoding of what it is read as
(30_encoding.md rules R64 to R71, R75). After these, the statements on decoding.
-/

namespace Sys2Proof.Proofs

open Sys2Proof Sys2Proof.Machine

/-! ### Host frames (R67, R68, R71) -/

/-- The decoder's payload lengths are the request lengths of R68, less the opcode byte. -/
theorem hostPayloadLength_eq_some_iff {op : Byte} {n : Nat} :
    hostPayloadLength op = some n ↔ (op, n + 1) ∈ Spec.requestBytes := by
  constructor
  · intro h
    unfold hostPayloadLength at h
    split_ifs at h with h1 h2 h3 h4 h5 h6 h7 <;> cases h
    · rcases h1 with rfl | rfl | rfl | rfl | rfl <;> decide
    · subst h2; decide
    · rcases h3 with rfl | rfl <;> decide
    · subst h4; decide
    · subst h5; decide
    · subst h6; decide
    · subst h7; decide
  · have hrows : ∀ row ∈ Spec.requestBytes, hostPayloadLength row.1 = some (row.2 - 1) := by decide
    exact hrows (op, n + 1)

theorem decodeHost_cons_eq_ok_iff {op : Byte} {pay : List Byte} {i : Instr} :
    decodeHost (op :: pay) = .ok i ↔
      hostPayloadLength op = some pay.length ∧ decodeHostPayload op pay = .ok i := by
  simp only [decodeHost]
  split
  next hn => simp [hn]
  next n hn =>
    rw [hn, Option.some.injEq]
    split
    next hlen => simp [hlen]
    next hlen => simp [Ne.symm hlen]

theorem except_map_eq_ok_iff {ε α β : Type} {f : α → β} {x : Except ε α} {b : β} :
    x.map f = .ok b ↔ ∃ a, x = .ok a ∧ f a = b := by
  cases x <;> simp [Except.map]

/-! ### Payloads are the operands read from them, written again -/

theorem bytes32_word_eq {pay : List Byte} (h : pay.length = 4) : bytes32 (word pay 0) = pay := by
  have hend : pay.drop 4 = [] := List.drop_eq_nil_of_le h.le
  simpa [hend] using bytes32_word_append (pay := pay) (k := 0) h.ge

theorem selectorPayload_eq {pay : List Byte} (h : pay.length = 1) : [byteAt pay 0] = pay := by
  have hend : pay.drop 1 = [] := List.drop_eq_nil_of_le h.le
  simpa [hend] using byteAt_cons_drop (pay := pay) (k := 0) h.ge

theorem calStepPayload_eq {pay : List Byte} (h : pay.length = 7) :
    byteAt pay 0 :: (bytes32 (word pay 1) ++ bytes16 (half pay 5)) = pay := by
  have hend : pay.drop 7 = [] := List.drop_eq_nil_of_le h.le
  have hhalf := bytes16_half_append (pay := pay) (k := 5) (by omega)
  rw [hend, List.append_nil] at hhalf
  rw [hhalf, bytes32_word_append (by omega)]
  exact byteAt_cons_drop (k := 0) (by omega)

theorem userCalibrationPayload_eq {pay : List Byte} (h : pay.length = 41) :
    bytes32 (word pay 0) ++ byteAt pay 4 :: bytesOfParams (paramsAt pay 5) = pay := by
  have hend : pay.drop 41 = [] := List.drop_eq_nil_of_le h.le
  have hparams := bytesOfParams_paramsAt_append (pay := pay) (k := 5) (by omega)
  rw [hend, List.append_nil] at hparams
  rw [hparams, byteAt_cons_drop (by omega)]
  exact bytes32_word_append (k := 0) (by omega)

/-- What a payload of the right length is read as encodes to the frame again. -/
theorem encode_of_decodeHostPayload {op : Byte} {pay : List Byte} {i : Instr}
    (hlen : hostPayloadLength op = some pay.length) (h : decodeHostPayload op pay = .ok i) :
    i.wellFormed = true ∧ encode i = .host (op :: pay) := by
  simp only [hostPayloadLength_eq_some_iff, Spec.requestBytes, List.mem_cons, Prod.mk.injEq,
    List.not_mem_nil, or_false, Nat.add_eq_right, List.length_eq_zero_iff, Nat.reduceEqDiff] at hlen
  rcases hlen with ⟨rfl, rfl⟩ | ⟨rfl, rfl⟩ | ⟨rfl, rfl⟩ | ⟨rfl, rfl⟩ | ⟨rfl, rfl⟩ | ⟨rfl, hlen⟩ |
    ⟨rfl, rfl⟩ | ⟨rfl, rfl⟩ | ⟨rfl, hlen⟩ | ⟨rfl, hlen⟩ | ⟨rfl, hlen⟩ | ⟨rfl, hlen⟩
  -- the five getters without a selector
  iterate 5
    · cases h
      exact ⟨rfl, rfl⟩
  -- SET_MAX_CURRENT
  · cases h
    exact ⟨rfl, congrArg (fun l => Code.host (0x10 :: l)) (bytes32_word_eq hlen)⟩
  -- START_CHARGING and STOP_CHARGING
  iterate 2
    · cases h
      exact ⟨rfl, rfl⟩
  -- CAL_STEP
  · cases h
    exact ⟨rfl, congrArg (fun l => Code.host (0x20 :: l)) (calStepPayload_eq hlen)⟩
  -- CAL_ABORT
  · cases h
    exact ⟨rfl, congrArg (fun l => Code.host (0x21 :: l)) (bytes32_word_eq hlen)⟩
  -- GET_CALIBRATION
  · obtain ⟨which, hwhich, rfl⟩ := except_map_eq_ok_iff.mp h
    rw [selectorOf_eq_ok_iff] at hwhich
    exact ⟨rfl, congrArg (fun l => Code.host (0x30 :: l)) (hwhich ▸ selectorPayload_eq hlen)⟩
  -- SET_USER_CALIBRATION
  · obtain ⟨active, hactive, rfl⟩ := except_map_eq_ok_iff.mp h
    rw [boolOf_eq_ok_iff] at hactive
    exact ⟨rfl, congrArg (fun l => Code.host (0x31 :: l)) (hactive ▸ userCalibrationPayload_eq hlen)⟩

theorem encode_of_decodeHost {bytes : List Byte} {i : Instr} (h : decode (.host bytes) = .ok i) :
    i.wellFormed = true ∧ encode i = .host bytes := by
  cases bytes with
  | nil => cases h
  | cons op pay =>
    obtain ⟨hlen, hpay⟩ := decodeHost_cons_eq_ok_iff.mp h
    exact encode_of_decodeHostPayload hlen hpay

theorem exists_map_eq_ok_iff {ε α β : Type} {f : α → β} {x : Except ε α} :
    (∃ b, x.map f = .ok b) ↔ ∃ a, x = .ok a := by
  cases x <;> simp [Except.map]

/-- A payload of the right length is refused for its `bool` or its selector only. -/
theorem decodeHostPayload_accepts_iff {op : Byte} {pay : List Byte}
    (hlen : hostPayloadLength op = some pay.length) :
    (∃ i, decodeHostPayload op pay = .ok i) ↔
      (op = 0x31 → (byteAt pay 4).toNat ≤ 1) ∧ (op = 0x30 → (byteAt pay 0).toNat ≤ 2) := by
  simp only [hostPayloadLength_eq_some_iff, Spec.requestBytes, List.mem_cons, Prod.mk.injEq,
    List.not_mem_nil, or_false] at hlen
  have always {op : Byte} {i : Instr} (hi : decodeHostPayload op pay = .ok i) (h31 : op ≠ 0x31)
      (h30 : op ≠ 0x30) : (∃ i, decodeHostPayload op pay = .ok i) ↔
      (op = 0x31 → (byteAt pay 4).toNat ≤ 1) ∧ (op = 0x30 → (byteAt pay 0).toNat ≤ 2) :=
    ⟨fun _ => ⟨fun h => absurd h h31, fun h => absurd h h30⟩, fun _ => ⟨i, hi⟩⟩
  rcases hlen with ⟨rfl, -⟩ | ⟨rfl, -⟩ | ⟨rfl, -⟩ | ⟨rfl, -⟩ | ⟨rfl, -⟩ | ⟨rfl, -⟩ |
    ⟨rfl, -⟩ | ⟨rfl, -⟩ | ⟨rfl, -⟩ | ⟨rfl, -⟩ | ⟨rfl, -⟩ | ⟨rfl, -⟩
  -- the ten commands whose operands take every value of their width
  iterate 10
    · exact always rfl (by decide) (by decide)
  · refine (exists_map_eq_ok_iff (x := selectorOf (byteAt pay 0))).trans ?_
    simp [selectorOf_eq_ok_iff, exists_eq_byteOfSelector_iff]
  · refine (exists_map_eq_ok_iff (x := boolOf (byteAt pay 4))).trans ?_
    simp [boolOf_eq_ok_iff, exists_eq_byteOfBool_iff, -Bool.exists_bool]

/-- The request lengths of R68 are positive: a request has its opcode byte. -/
theorem exists_succ_of_mem_requestBytes {op : Byte} {n : Nat} (h : (op, n) ∈ Spec.requestBytes) :
    ∃ m, n = m + 1 := by
  have hpos : ∀ row ∈ Spec.requestBytes, 0 < row.2 := by decide
  exact Nat.exists_eq_add_one.mpr (hpos _ h)

/-- An opcode of R68 with the length it fixes. -/
theorem hostPayloadLength_eq_length_iff {op : Byte} {pay : List Byte} :
    hostPayloadLength op = some pay.length ↔
      op ∈ Spec.requestBytes.map Prod.fst ∧
        ∀ n, (op, n) ∈ Spec.requestBytes → (op :: pay).length = n := by
  constructor
  · intro h
    refine ⟨List.mem_map_of_mem (f := Prod.fst) (hostPayloadLength_eq_some_iff.mp h), fun n hn => ?_⟩
    obtain ⟨m, rfl⟩ := exists_succ_of_mem_requestBytes hn
    rw [← hostPayloadLength_eq_some_iff, h, Option.some.injEq] at hn
    rw [List.length_cons, hn]
  · rintro ⟨hop, hlen⟩
    obtain ⟨⟨_, n⟩, hn, rfl⟩ := List.mem_map.mp hop
    rw [hostPayloadLength_eq_some_iff]
    exact hlen n hn ▸ hn

/-- The decoder accepts a host frame exactly where R71 has no ground against it. -/
theorem decode_host_accepts_iff (bytes : List Byte) :
    (∃ i, decode (.host bytes) = .ok i) ↔ ¬ Spec.frameRefused bytes := by
  cases bytes with
  | nil => exact ⟨fun ⟨_, h⟩ => (nomatch h), fun h => absurd trivial h⟩
  | cons op pay =>
    have hsplit : (∃ i, decode (.host (op :: pay)) = .ok i) ↔
        hostPayloadLength op = some pay.length ∧ ∃ i, decodeHostPayload op pay = .ok i := by
      simp only [decode, decodeHost_cons_eq_ok_iff, exists_and_left]
    rw [hsplit, and_congr_right decodeHostPayload_accepts_iff, hostPayloadLength_eq_length_iff]
    simp only [Spec.frameRefused, byteAt]
    push Not
    rw [and_assoc]

theorem decodeHost_setUserCalibration (password : U32) (active : Bool) (params : CalParams) :
    decodeHost (0x31 :: (bytes32 password ++ byteOfBool active :: bytesOfParams params))
      = .ok (.setUserCalibration password active params) := by
  refine decodeHost_cons_eq_ok_iff.mpr ⟨?_, ?_⟩
  · simp [bytes32, Laws.bytesOfParams_length, hostPayloadLength]
  · refine except_map_eq_ok_iff.mpr ⟨active, boolOf_eq_ok_iff.mpr rfl, ?_⟩
    exact congrArg₂ (fun w p => Instr.setUserCalibration w active p) (le32_byteOf password)
      (paramsAt_bytesOfParams (bytes32 password ++ [byteOfBool active]) params)

/-! ### The other ports (R64, R66, R69, R75) -/

/-- Of an internal step the opcode is encoded again, beside the operands the operation keeps. -/
theorem encode_of_decodeStepOpcode {op : Byte} {args : CallArgs} {i : Instr}
    (h : decodeStepOpcode op args = .ok i) :
    i.wellFormed = true ∧ ∃ args', encode i = .step [op] args' := by
  revert h
  unfold decodeStepOpcode
  iterate 12
    refine iteInduction (motive := (· = Except.ok i → _)) (fun hop h => ?_) fun _ => ?_
    · cases hop
      cases h
      exact ⟨rfl, _, rfl⟩
  exact nofun

theorem encode_of_decodeConfigWord {hi lo : Byte} {i : Instr}
    (h : decodeConfigWord (hi ++ lo) = .ok i) :
    i.wellFormed = true ∧ encode i = .spiOut [hi, lo] := by
  rw [← spiBytes_append hi lo]
  rcases decodeConfigWord_eq_ok_iff.mp h with ⟨mux, pga, hw, rfl⟩ | ⟨mux, pga, hw, rfl⟩ | ⟨pga, hw, rfl⟩ <;>
    rw [hw] <;> exact ⟨rfl, rfl⟩

theorem encode_of_decodePassword {b0 b1 b2 b3 : Byte} {i : Instr}
    (h : decodePassword (le32 b0 b1 b2 b3) = .ok i) :
    i.wellFormed = true ∧ encode i = .password [b0, b1, b2, b3] := by
  obtain ⟨step, hstep, hw, rfl⟩ := decodePassword_eq_ok_iff.mp h
  rw [← bytes32_le32, hw]
  exact ⟨decide_eq_true hstep, rfl⟩

theorem encode_of_decodeAsm {line : Pseudo} {i : Instr} (h : decodeAsm line = .ok i) :
    i.wellFormed = true ∧ encode i = .asm line := by
  cases line <;> cases h <;> exact ⟨rfl, rfl⟩

/-! ### The statements -/

/-- Settles O1: each encoding's fields are read back; the words and passwords by what their decoders
accept. -/
theorem encodedOperationsDecode : Obligations.EncodedOperationsDecode := by
  unfold Obligations.EncodedOperationsDecode
  intro i hwf
  cases i with
  | setMaxCurrent ma => exact congrArg (fun w => Except.ok (Instr.setMaxCurrent w)) (le32_byteOf ma)
  | calStep step password value =>
    exact congrArg₂ (fun w v => Except.ok (Instr.calStep step w v)) (le32_byteOf password)
      (le16_byteOf value)
  | calAbort password =>
    exact congrArg (fun w => Except.ok (Instr.calAbort w)) (le32_byteOf password)
  | getCalibration which => cases which <;> rfl
  | setUserCalibration password active params => exact decodeHost_setUserCalibration ..
  | ads1118CfgNormal mux pga =>
    rw [encode, decode_spiOut]
    exact decodeConfigWord_eq_ok_iff.mpr (.inl ⟨mux, pga, rfl, rfl⟩)
  | ads1118CfgFast mux pga =>
    rw [encode, decode_spiOut]
    exact decodeConfigWord_eq_ok_iff.mpr (.inr (.inl ⟨mux, pga, rfl, rfl⟩))
  | ads1118CfgTemp pga =>
    rw [encode, decode_spiOut]
    exact decodeConfigWord_eq_ok_iff.mpr (.inr (.inr ⟨pga, rfl, rfl⟩))
  | ads1118Sample w => exact decode_spiIn w
  | calPassword step =>
    rw [encode, decode_password]
    exact decodePassword_eq_ok_iff.mpr ⟨step, of_decide_eq_true hwf, rfl, rfl⟩
  | _ => rfl

/-- Settles O2: port by port. -/
theorem acceptedCodesReencode : Obligations.AcceptedCodesReencode := by
  unfold Obligations.AcceptedCodesReencode
  intro c i h
  unfold decode at h
  split at h
  · exact encode_of_decodeHost h
  -- each port of fixed length, then its codes of another length, which it refuses
  · exact encode_of_decodeStepOpcode h
  · cases h
  · exact encode_of_decodeConfigWord h
  · cases h
  · cases h
    exact ⟨rfl, congrArg Code.spiIn (spiBytes_append _ _)⟩
  · cases h
  · exact encode_of_decodePassword h
  · cases h
  · exact encode_of_decodeAsm h

/-- Settles O3: acceptance is the negation of R71's grounds, and the step of a refused frame changes the
schedule, ENV's answers and the draw counter only. -/
theorem hostFramesRefusedExactly : Obligations.HostFramesRefusedExactly := by
  unfold Obligations.HostFramesRefusedExactly
  refine ⟨decode_host_accepts_iff, fun bytes s slot rest hq hg hcode hrefused => ?_⟩
  have hslot : nextSlot s = slot := nextSlot_of_queue hq hg
  have hno : ∀ i, decode (.host bytes) ≠ .ok i := fun i hi =>
    (decode_host_accepts_iff bytes).mp ⟨i, hi⟩ hrefused
  have hstep : step s = .next (fetched s) := by
    rw [step_of_rejected (by rwa [hslot, hcode]), rejected_of_ne_spiOut (by simp [hslot, hcode])]
  exact ⟨_, hstep, rfl, rfl, rfl, rfl, rfl, rfl, congrArg State.queue (fetched_of_queue hq hg)⟩

end Sys2Proof.Proofs
end

section
/-!
SUPPORT. The typed builder of configuration words, the passwords CAL_STEP takes, and the response layouts
(30_encoding.md rules R63, R66, R68), with their statements.
-/

namespace Sys2Proof.Proofs

open Sys2Proof Sys2Proof.Machine

/-- The nine bits below `PGA` of the typed builder: `MODE DR TS PULL NOP reserved` (R63). -/
def builderLow (m : AdcMode) (ch : Channel) : BitVec 9 :=
  match m with
  | .normal => 1#1 ++ 0b000#3 ++ tsBit ch ++ 1#1 ++ 0b01#2 ++ 1#1
  | .fast => 0#1 ++ 0b010#3 ++ tsBit ch ++ 1#1 ++ 0b01#2 ++ 1#1

theorem cfgWord_eq (P : Machine.Params) (ch : Channel) (m : AdcMode) :
    cfgWord P ch m
      = configWord (if m = .normal then 1 else 0) (muxOf P ch) P.pga (builderLow m ch) := by
  cases m <;> exact configWord_of_fields ..

/-- A field of the builder's word below `PGA`. -/
theorem cfgWord_low (P : Machine.Params) (ch : Channel) (m : AdcMode) {start len : Nat}
    (h : start + len ≤ 9) :
    (cfgWord P ch m).extractLsb' start len = (builderLow m ch).extractLsb' start len := by
  rw [cfgWord_eq, configWord_low _ _ _ _ h]

/-- Settles O4: the decoder evaluated on each word. -/
theorem specWordsDecode : Obligations.SpecWordsDecode := by
  unfold Obligations.SpecWordsDecode
  exact ⟨rfl, rfl, rfl, rfl, rfl, rfl, rfl, rfl, rfl, rfl, rfl, rfl, rfl⟩

/-- Settles O5: the three upper fields of the builder's word, and those within its nine low bits. -/
theorem configWordBuilderFields : Obligations.ConfigWordBuilderFields := by
  unfold Obligations.ConfigWordBuilderFields
  refine ⟨fun P ch m => ?_, fun P hcp hpp hpga => ?_⟩
  · intro w
    have hw : w = _ := cfgWord_eq P ch m
    refine ⟨?_, ?_, ?_, ?_⟩
    · rw [hw, configWord_ss]; rfl
    · rw [hw, configWord_mux]; cases ch <;> rfl
    · rw [hw, configWord_pga]
    · simp only [w, cfgWord_low, Nat.reduceAdd, Nat.reduceLeDiff]
      cases m <;> cases ch <;> decide
  · simp only [cfgWord, muxOf, hcp, hpp, hpga]
    decide

/-! ### CAL_PASSWORD and the password of CAL_STEP -/

theorem exec_calStep_rejected {step : U8} {password : U32} {s : State}
    (h : calStepAccepted step password s.arch = false) (value : I16) :
    exec (.calStep step password value) s
      = .next { s with responses := s.responses ++ [.ok false] } :=
  congrArg Host.Outcome.next (if_neg (by simp [h]))

/-- The password of a session step by its number. -/
theorem passwordOf_stepByte {n : Nat} (h : n ≤ 16) :
    passwordOf (Spec.stepByte n) = Spec.sessionPassword n := by
  rw [passwordOf_eq, BitVec.toNat_ofNat, Nat.mod_eq_of_lt (by omega)]

/-- Settles O6: a session step's password is the word of R66, which the decoder reads for steps up to 16
only, and CAL_STEP compares its operand with it. -/
theorem passwordOfSessionStep : Obligations.PasswordOfSessionStep := by
  unfold Obligations.PasswordOfSessionStep
  refine ⟨fun n hn => ?_, fun n hlow hn i hi => ?_, fun n s hn => ?_, fun n w value s hn hw => ?_⟩
  · rw [decode_password, decodePassword_eq_ok_iff]
    refine ⟨_, ?_, sessionPassword_eq_passwordWord (by omega), rfl⟩
    rw [BitVec.toNat_ofNat]
    omega
  · rw [decode_password, decodePassword_eq_ok_iff] at hi
    obtain ⟨step, hstep, hword, -⟩ := hi
    rw [sessionPassword_eq_passwordWord hn, passwordWord, passwordWord,
      BitVec.append_right_inj] at hword
    rw [← hword, BitVec.toNat_ofNat] at hstep
    omega
  · have hstep : (BitVec.ofNat 5 n).setWidth 8 = Spec.stepByte n := by
      apply BitVec.eq_of_toNat_eq
      rw [BitVec.toNat_setWidth, BitVec.toNat_ofNat, BitVec.toNat_ofNat]
      omega
    rw [← passwordOf_stepByte hn, ← hstep]
    rfl
  · refine exec_calStep_rejected (decide_eq_false fun hok => hw ?_) value
    obtain ⟨-, -, hpassword, -⟩ := hok
    rw [hpassword, passwordOf_stepByte hn]

/-! ### Responses -/

/-- Settles O60: each layout is its list of fields; the 14 table entries are fields of the parameter
set's bytes. -/
theorem responseLayouts : Obligations.ResponseLayouts := by
  unfold Obligations.ResponseLayouts
  intro bool half word
  refine ⟨fun _ _ _ _ _ _ => rfl, fun _ _ => rfl, fun _ _ _ _ _ _ => rfl, fun _ _ => rfl,
    fun _ => rfl, fun _ => rfl, fun active p => ?_, rfl⟩
  have hlen : (responseBytes (.calibration active p)).length = 37 := by
    simp [responseBytes, Laws.bytesOfParams_length]
  refine ⟨hlen, rfl, fun i => ?_⟩
  have hentry : Sys2Proof.half (responseBytes (.calibration active p)) (9 + 2 * i.val) = p.ref880[i] := by
    rw [show 9 + 2 * i.val = [byteOfBool active].length + (8 + 2 * i.val) by simp; omega]
    exact (half_append_right [byteOfBool active] (bytesOfParams p) _).trans
      (half_bytesOfParams_table p i)
  rw [take_two_drop (by omega), hentry]
  rfl

end Sys2Proof.Proofs
end

section
/-!
SUPPORT. What a configuration word of the typed builder does to the chip (30_encoding.md rules R60, R62,
R72), with the statements on the words of the ADC's SPI and on ADC_CONFIGURE.
-/

namespace Sys2Proof.Proofs

open Sys2Proof Sys2Proof.Machine

/-- The activity a configuration word with `SS` bit `ss` and `MODE` bit `mode` puts the chip in (R62). -/
def activityAfter (ss mode : BitVec 1) (before : ChipActivity) : ChipActivity :=
  if mode = 0 then .continuous else if ss = 1 ∨ before = .single then .single else .poweredDown

theorem chipTakes_configWord (ss : BitVec 1) (mux pga : BitVec 3) (low : BitVec 9) (c : Chip) :
    chipTakes (configWord ss mux pga low) c
      = ⟨configWord ss mux pga low, activityAfter ss (low.extractLsb' 8 1) c.activity⟩ := by
  have hmode : (configWord ss mux pga low).getLsbD 8 = (low.extractLsb' 8 1 == 1#1) := by
    rw [BitVec.getLsbD_eq_extractLsb', configWord_low _ _ _ _ (Nat.le_refl 9)]
  have hss : (configWord ss mux pga low).getLsbD 15 = (ss == 1#1) := by
    rw [BitVec.getLsbD_eq_extractLsb', configWord_ss]
  have hzero : (low.extractLsb' 8 1 == 1#1) = false ↔ low.extractLsb' 8 1 = 0 := by
    generalize low.extractLsb' 8 1 = mode
    revert mode
    decide
  simp only [chipTakes, activityAfter, hmode, hss, hzero, beq_iff_eq]
  rfl

/-- A word with `NOP = 0b01` and its reserved bit set is taken, and the write is in the trace. -/
theorem spiWrite16_configWord {low : BitVec 9} (hnop : low.extractLsb' 1 2 = 0b01#2)
    (hreserved : low.extractLsb' 0 1 = 1#1) (ss : BitVec 1) (mux pga : BitVec 3) (s : State) :
    spiWrite16 (configWord ss mux pga low) s = { s with
      chip := ⟨configWord ss mux pga low, activityAfter ss (low.extractLsb' 8 1) s.chip.activity⟩
      trace := s.trace ++ [.spiWrite (configWord ss mux pga low)] } := by
  have hnopw : (configWord ss mux pga low).extractLsb' 1 2 = 0b01#2 := by
    rw [configWord_low _ _ _ _ (by decide), hnop]
  have hbit0 : (configWord ss mux pga low).getLsbD 0 = true := by
    rw [BitVec.getLsbD_eq_extractLsb', configWord_low _ _ _ _ (by decide), hreserved]
    rfl
  rw [spiWrite16, chipReceives_valid _ _ hnopw hbit0, chipTakes_configWord]
  rfl

/-- The builder's word: one conversion in normal mode, continuous ones in fast mode. -/
theorem spiWrite16_cfgWord (P : Machine.Params) (ch : Channel) (m : AdcMode) (s : State) :
    spiWrite16 (cfgWord P ch m) s = { s with
      chip := ⟨cfgWord P ch m, if m = .fast then .continuous else .single⟩
      trace := s.trace ++ [.spiWrite (cfgWord P ch m)] } := by
  have hlow : (builderLow m ch).extractLsb' 1 2 = 0b01#2 ∧ (builderLow m ch).extractLsb' 0 1 = 1#1 := by
    cases m <;> cases ch <;> decide
  rw [cfgWord_eq, spiWrite16_configWord hlow.1 hlow.2]
  cases m <;> cases ch <;> rfl

/-- Settles O59: the words of the three rows are of the builder's form, and a word is read as its bits. -/
theorem adcWordsReachTheChip : Obligations.AdcWordsReachTheChip := by
  unfold Obligations.AdcWordsReachTheChip
  refine ⟨fun mux pga s => ?_, fun w s hnop => if_pos hnop, fun w s => rfl⟩
  intro normal fast temp
  have hnormal : normal = cfgNormalWord mux pga := configWord_of_fields ..
  have hfast : fast = cfgFastWord mux pga := configWord_of_fields ..
  have htemp : temp = cfgTempWord pga := configWord_of_fields ..
  rw [hnormal, hfast, htemp]
  exact ⟨congrArg _ (spiWrite16_configWord rfl rfl 1 mux pga s),
    congrArg _ (spiWrite16_configWord rfl rfl 0 mux pga s),
    congrArg _ (spiWrite16_configWord rfl rfl 1 0 pga s)⟩

/-- Settles O36: the word is sent between the two edges of the chip-select line. -/
theorem adcConfigureSendsTheWord : Obligations.AdcConfigureSendsTheWord := by
  unfold Obligations.AdcConfigureSendsTheWord
  intro s hphase m w
  have hm : m = .fast ↔ s.env.inputs.fastMode = true := by
    cases hfast : s.env.inputs.fastMode <;> simp [m, hfast]
  have hwrite : spiWrite16 w (csAssert s) = { csAssert s with
      chip := ⟨w, if s.env.inputs.fastMode = true then .continuous else .single⟩
      trace := (csAssert s).trace ++ [.spiWrite w] } := by
    simp only [w, spiWrite16_cfgWord, hm]
  refine (if_pos hphase).trans (congrArg Host.Outcome.next ?_)
  calc adcConfigure Config.params s
    _ = (csDeassert (spiWrite16 w (csAssert s))).withAdc
          { (csDeassert (spiWrite16 w (csAssert s))).arch.adc with
            mode := m, cfg := w, t0 := (csDeassert (spiWrite16 w (csAssert s))).env.now,
            phase := .delay } := rfl
    _ = _ := by rw [hwrite]; simp [State.withAdc, csDeassert, csAssert, State.emit]

end Sys2Proof.Proofs
end

section
/-!
SUPPORT. The factory session step by step (43_factory_calibration.md rules R156 to R164): what an accepted
step captures and drives, and what a whole session has done after each of its steps. After these, the
statements on CAL_PASS and on the session.
-/

namespace Sys2Proof.Proofs

open Sys2Proof Sys2Proof.Machine

/-! ### An accepted session step -/

theorem stepByte_toNat {n : Nat} (h : n ≤ 16) : (Spec.stepByte n).toNat = n := by
  rw [BitVec.toNat_ofNat, Nat.mod_eq_of_lt (by omega)]

theorem stepByte_eq_zero_iff {n : Nat} (h : n ≤ 16) : Spec.stepByte n = 0 ↔ n = 0 := by
  rw [← BitVec.toNat_inj, stepByte_toNat h]
  rfl

theorem stepByte_eq_one_iff {n : Nat} (h : n ≤ 16) : Spec.stepByte n = 1 ↔ n = 1 := by
  rw [← BitVec.toNat_inj, stepByte_toNat h]
  rfl

theorem sessionStep_zero (P : Params) (value : I16) (s : State) :
    sessionStep P (Spec.stepByte 0) value s = sessionStep0 value s := rfl

theorem sessionStep_one (P : Params) (value : I16) (s : State) :
    sessionStep P (Spec.stepByte 1) value s = sessionStep1 s := rfl

theorem sessionStep_table {n : Nat} (h2 : 2 ≤ n) (h15 : n ≤ 15) (P : Params) (value : I16) (s : State) :
    sessionStep P (Spec.stepByte n) value s = sessionStepTable n s := by
  have hn : (Spec.stepByte n).toNat = n := stepByte_toNat (by omega)
  rw [sessionStep, if_neg (by rw [stepByte_eq_zero_iff] <;> omega),
    if_neg (by rw [stepByte_eq_one_iff] <;> omega), hn, if_pos h15]

theorem sessionStep_sixteen (P : Params) (value : I16) (s : State) :
    sessionStep P (Spec.stepByte 16) value s = sessionStep16 P value s := rfl

/-- An accepted step moves the session on, to idle after step 16. -/
theorem sessionStep_calStep {n : Nat} (h : n ≤ 16) (P : Params) (value : I16) (s : State) :
    (sessionStep P (Spec.stepByte n) value s).arch.cal.step
      = Spec.stepByte (if n = 16 then 0 else n + 1) := by
  obtain rfl | rfl | ⟨h2, h15⟩ | rfl : n = 0 ∨ n = 1 ∨ (2 ≤ n ∧ n ≤ 15) ∨ n = 16 := by omega
  · rfl
  · rfl
  · rw [sessionStep_table h2 h15, if_neg (by omega)]
    rfl
  · rfl

@[simp] theorem sessionStep_responses (P : Params) (step : U8) (value : I16) (s : State) :
    (sessionStep P step value s).responses = s.responses := by
  unfold sessionStep
  split_ifs <;> simp [sessionStep0, sessionStep1, sessionStepTable, sessionStep16, persistSaveFactory]

@[simp] theorem sessionStep_draws (P : Params) (step : U8) (value : I16) (s : State) :
    (sessionStep P step value s).draws = s.draws := by
  unfold sessionStep
  split_ifs <;> simp [sessionStep0, sessionStep1, sessionStepTable, sessionStep16, persistSaveFactory]

/-- A session that awaits step `n` and is ready for it: before step 0, CP is open and has a voltage. -/
structure ReadyFor (n : Nat) (a : Arch) : Prop where
  step : a.cal.step = Spec.stepByte n
  start : n = 0 → a.cp.resistance = 0xFFFF ∧ a.cp.voltage ≠ 0

/-- CAL_PASS of the step a session is ready for is accepted. -/
theorem exec_calPass_accepted {n : Nat} {s : State} (hn : n ≤ 16) (h : ReadyFor n s.arch)
    (value : I16) :
    exec (.calPass (Spec.stepByte n) value) s
      = .next ((sessionStep Config.params (Spec.stepByte n) value s).respond (.ok true)) := by
  refine congrArg Host.Outcome.next (if_pos (decide_eq_true ⟨h.step.symm, ?_, rfl, fun h0 => ?_⟩))
  · rw [stepByte_toNat hn]
    exact hn
  · exact h.start ((stepByte_eq_zero_iff hn).mp h0)

theorem exec_calPass (step : U8) (value : I16) (s : State) :
    exec (.calPass step value) s = exec (.calStep step (passwordOf step) value) s := rfl

/-- Settles O33: CAL_PASS is CAL_STEP by definition, accepted for the step the session awaits, and
rejected above 16. -/
theorem calPassPerformsTheStep : Obligations.CalPassPerformsTheStep := by
  unfold Obligations.CalPassPerformsTheStep
  refine ⟨fun step value s => ⟨rfl, ?_⟩, fun n value s hn hstep hstart => ?_,
    fun step value s hstep => ?_⟩
  · rw [exec_calPass, passwordOf_eq]
  · exact ⟨_, exec_calPass_accepted hn ⟨hstep, hstart⟩ value, sessionStep_calStep hn _ _ _,
      by rw [respond_responses, sessionStep_responses]⟩
  · rw [exec_calPass]
    refine exec_calStep_rejected (decide_eq_false fun hok => ?_) value
    obtain ⟨-, hle, -⟩ := hok
    exact absurd hle (Nat.not_le.mpr hstep)

@[simp] theorem fetched_draws (s : State) : (fetched s).draws = s.draws + 1 := rfl

/-! ### What a session has done after each of its steps -/

/-- The factory set of a session from the record `a` after its first `n` steps: step 0 captures the
scaling, step 1 the reference at full duty, and step `i + 2` entry `i` of the table (R159 to R161). -/
def capturedSet (v0 : I16) (a : Arch) (n : Nat) : CalParams where
  mul := if n = 0 then a.factory.mul else v0
  div := if n = 0 then a.factory.div else a.cp.voltage
  diff := a.factory.diff
  ref2700 := if n ≤ 1 then a.factory.ref2700 else a.cp.highVoltage.setWidth 16
  ref880 := Vector.ofFn fun i =>
    if i.val + 2 < n then a.cp.highVoltage.setWidth 16 else a.factory.ref880[i]

theorem capturedSet_zero (v0 : I16) (a : Arch) : capturedSet v0 a 0 = a.factory := by
  have htable : (Vector.ofFn fun i : Fin 14 =>
      if i.val + 2 < 0 then a.cp.highVoltage.setWidth 16 else a.factory.ref880[i])
        = a.factory.ref880 := by
    ext i hi
    simp
  simp only [capturedSet, htable]
  rfl

theorem capturedSet_one (v0 : I16) (a : Arch) :
    capturedSet v0 a 1 = { capturedSet v0 a 0 with mul := v0, div := a.cp.voltage } := by
  simp [capturedSet]

theorem capturedSet_two (v0 : I16) (a : Arch) :
    capturedSet v0 a 2 = { capturedSet v0 a 1 with ref2700 := a.cp.highVoltage.setWidth 16 } := by
  simp [capturedSet]

theorem capturedSet_succ (v0 : I16) (a : Arch) {n : Nat} (h2 : 2 ≤ n) :
    capturedSet v0 a (n + 1) = { capturedSet v0 a n with
      ref880 := (capturedSet v0 a n).ref880.setIfInBounds (n - 2) (a.cp.highVoltage.setWidth 16) } := by
  have htable : (capturedSet v0 a (n + 1)).ref880
      = (capturedSet v0 a n).ref880.setIfInBounds (n - 2) (a.cp.highVoltage.setWidth 16) := by
    refine Vector.ext fun i hi => ?_
    simp only [capturedSet, Vector.getElem_ofFn, Vector.getElem_setIfInBounds]
    by_cases hlast : n - 2 = i
    · rw [if_pos hlast, if_pos (by omega)]
    · rw [if_neg hlast]
      exact if_congr (by omega) rfl rfl
  rw [← htable]
  simp [capturedSet, show n ≠ 0 by omega, show ¬ n ≤ 1 by omega]

theorem capturedSet_sixteen (v0 : I16) (a : Arch) :
    capturedSet v0 a 16 =
      { mul := v0, div := a.cp.voltage, diff := a.factory.diff
        ref2700 := a.cp.highVoltage.setWidth 16
        ref880 := Vector.replicate 14 (a.cp.highVoltage.setWidth 16) } := by
  have htable : (capturedSet v0 a 16).ref880 = Vector.replicate 14 (a.cp.highVoltage.setWidth 16) := by
    refine Vector.ext fun i hi => ?_
    rw [capturedSet, Vector.getElem_ofFn, Vector.getElem_replicate, if_pos (by omega)]
  rw [← htable]
  rfl

/-- The stored reference is the low half of the published high voltage (R160, R161). -/
theorem wrap16_toInt (v : I32) : wrap16 v.toInt = v.setWidth 16 :=
  BitVec.signExtend_eq_setWidth_of_le v (by decide)

/-- A session that began in `s` and has done its first `n` steps is in `u`: what it captured, drove and
answered, and that it measured nothing meanwhile. -/
structure SessionProgress (v0 : I16) (s : State) (n : Nat) (u : State) : Prop where
  ready : ReadyFor n u.arch
  factory : u.arch.factory = capturedSet v0 s.arch n
  cp : ∃ k, u.arch.cp = { s.arch.cp with invalid := k }
  user : u.arch.user = s.arch.user
  sm : u.arch.sm = s.arch.sm
  outputs : 2 ≤ n → u.arch.out.duty = dutyField (6000 + 2000 * (n - 2)) ∧ u.arch.out.contactor = false
  responses : u.responses = s.responses ++ List.replicate n (.ok true)

theorem sessionProgress_start {s : State} (h : ReadyFor 0 s.arch) (v0 : I16) :
    SessionProgress v0 s 0 s where
  ready := h
  factory := (capturedSet_zero v0 s.arch).symm
  cp := ⟨_, rfl⟩
  user := rfl
  sm := rfl
  outputs := nofun
  responses := (List.append_nil _).symm

/-- Fetching an operation is no part of the session. -/
theorem sessionProgress_fetched {v0 : I16} {s u : State} {n : Nat} (h : SessionProgress v0 s n u) :
    SessionProgress v0 s n (fetched u) := { h with }

theorem setOutput_relay_off (duty : U16) (s : State) :
    (setOutput duty false s).arch.out.contactor = false := by
  simp [setOutput_contactor]

/-- What steps 0 to 15 capture, in the terms of the session's first record. -/
theorem sessionStep_factory {v0 value : I16} {s u : State} {n : Nat} (h : SessionProgress v0 s n u)
    (hn : n ≤ 15) (hvalue : n = 0 → value = v0) (P : Params) :
    (sessionStep P (Spec.stepByte n) value u).arch.factory = capturedSet v0 s.arch (n + 1) := by
  obtain ⟨k, hcp⟩ := h.cp
  obtain rfl | rfl | h2 : n = 0 ∨ n = 1 ∨ 2 ≤ n := by omega
  · rw [sessionStep_zero, hvalue rfl, capturedSet_one, ← h.factory]
    simp [sessionStep0, hcp]
  · rw [sessionStep_one, capturedSet_two, ← h.factory]
    simp [sessionStep1, wrap16_toInt, hcp]
  · rw [sessionStep_table h2 hn, capturedSet_succ v0 s.arch h2, ← h.factory]
    simp [sessionStepTable, wrap16_toInt, hcp]

/-- Steps 1 to 15 drive their duty of the table with the relay off (R164). -/
theorem sessionStep_outputs {n : Nat} (h1 : 1 ≤ n) (h15 : n ≤ 15) (P : Params) (value : I16)
    (u : State) :
    (sessionStep P (Spec.stepByte n) value u).arch.out.duty = dutyField (6000 + 2000 * (n - 1)) ∧
      (sessionStep P (Spec.stepByte n) value u).arch.out.contactor = false := by
  obtain rfl | h2 : n = 1 ∨ 2 ≤ n := by omega
  · simp [sessionStep_one, sessionStep1, setOutput_relay_off]
  · simp [sessionStep_table h2 h15, sessionStepTable, setOutput_relay_off]

/-- An accepted step before the last takes the session one further. -/
theorem sessionProgress_step {v0 value : I16} {s u : State} {n : Nat} (h : SessionProgress v0 s n u)
    (hn : n ≤ 15) (hvalue : n = 0 → value = v0) (P : Params) :
    SessionProgress v0 s (n + 1)
      ((sessionStep P (Spec.stepByte n) value u).respond (.ok true)) := by
  obtain ⟨⟨-, ⟨j, hcp'⟩, -, -, huser⟩, hsm⟩ := sessionStep_frame P (Spec.stepByte n) value u
  obtain ⟨k, hcp⟩ := h.cp
  refine ⟨⟨?_, nofun⟩, sessionStep_factory h hn hvalue P, ⟨j, ?_⟩, huser.trans h.user, hsm.trans h.sm,
    fun h2 => sessionStep_outputs (by omega) hn P value u, ?_⟩
  · rw [respond_arch, sessionStep_calStep (by omega), if_neg (by omega)]
  · rw [respond_arch, hcp', hcp]
  · rw [respond_responses, sessionStep_responses, h.responses, List.append_assoc,
      List.replicate_succ']

/-- Step 16 captures the difference, saves the set, drives full duty with the relay off, and ends the
session (R162). -/
theorem sessionStep_sixteen_fields (P : Params) (value : I16) (u : State) :
    let t := sessionStep P (Spec.stepByte 16) value u
    let factory := { u.arch.factory with diff := P.diffCapture u.arch value }
    t.arch.factory = factory ∧ t.arch.cal.step = 0 ∧ t.pages.factory = some ⟨P.magic, factory⟩ ∧
      t.arch.out.duty = 1000 ∧ t.arch.out.contactor = false := by
  simp [sessionStep_sixteen, sessionStep16, persistSaveFactory, setOutput_relay_off]

/-- The last duty of the table. -/
theorem dutyField_last : dutyField (6000 + 2000 * (16 - 2)) = 566 := by decide

/-- With its first sixteen steps done, step 16 completes the session. -/
theorem sessionCompleted_step {v0 v16 : I16} {s u : State} {rest : List Slot}
    (h : SessionProgress v0 s 16 u) (hrest : (fetched u).queue = rest) :
    Spec.sessionCompleted v0 v16 s rest u
      ((sessionStep Config.params (Spec.stepByte 16) v16 (fetched u)).respond (.ok true)) := by
  obtain ⟨k, hcp⟩ := h.cp
  obtain ⟨hduty, hcontactor⟩ := h.outputs (by decide)
  obtain ⟨⟨-, -, -, -, huser⟩, hsm⟩ :=
    sessionStep_frame Config.params (Spec.stepByte 16) v16 (fetched u)
  obtain ⟨hfactory, hstep, hpage, hduty', hcontactor'⟩ :=
    sessionStep_sixteen_fields Config.params v16 (fetched u)
  refine ⟨h.ready.step, by rw [h.factory, capturedSet_sixteen], hduty.trans dutyField_last, hcontactor,
    by rw [hcp], hfactory, hstep, ?_, huser.trans h.user, hsm.trans h.sm, hduty', hcontactor', ?_, ?_⟩
  · rw [respond_pages, respond_arch, hpage, hfactory]
  · rw [respond_queue, sessionStep_queue, hrest]
  · rw [respond_responses, sessionStep_responses, fetched_responses, h.responses, List.append_assoc,
      List.replicate_succ' (n := 16)]

/-! ### Running a session -/

theorem run_of_step {M : Host.Core} {s u : M.State} (h : M.step s = .next u) (k : Nat) :
    M.run (k + 1) s = M.run k u := by
  simp only [Host.Core.run, h]

/-- A run of one step more is the step of the state the run reaches. -/
theorem run_succ {M : Host.Core} {k : Nat} {s u : M.State} (h : M.run k s = .next u) :
    M.run (k + 1) s = M.step u := by
  induction k generalizing s with
  | zero =>
    cases h
    simp only [Host.Core.run]
    cases M.step u <;> rfl
  | succ k ih =>
    cases hs : M.step s with
    | next v =>
      rw [run_of_step hs] at h ⊢
      exact ih h
    | fault | refused =>
      simp only [Host.Core.run, hs] at h
      cases h

/-- The value that the session step `n` is commanded with: only steps 0 and 16 use theirs. -/
def sessionValue (v0 v16 : I16) (n : Nat) : I16 := if n = 0 then v0 else if n = 16 then v16 else 0

/-- The 17 session steps stand in `slots` in their order, and no agent's turn comes before one when the
first is due at draw `draws`. -/
structure SessionPlaced (v0 v16 : I16) (draws : Nat) (slots : List Slot) : Prop where
  length : slots.length = 17
  slot : ∀ n (h : n < slots.length),
    slots[n].code = encode (.calPass (Spec.stepByte n) (sessionValue v0 v16 n)) ∧
      slots[n].star = false ∧ gapTurn slots[n].part (draws + n) = none

/-- The step that a session placed in `slots` takes after its first `n`. -/
theorem step_of_sessionPlaced {v0 v16 : I16} {draws n : Nat} {slots rest : List Slot} {u : State}
    (hp : SessionPlaced v0 v16 draws slots) (hn : n ≤ 16) (hready : ReadyFor n u.arch)
    (hq : u.queue = slots.drop n ++ rest) (hdraws : u.draws = draws + n) :
    step u = .next ((sessionStep Config.params (Spec.stepByte n) (sessionValue v0 v16 n)
        (fetched u)).respond (.ok true)) ∧
      (fetched u).queue = slots.drop (n + 1) ++ rest := by
  have hlt : n < slots.length := by rw [hp.length]; omega
  obtain ⟨hcode, hstar, hgap⟩ := hp.slot n hlt
  rw [← hdraws] at hgap
  rw [List.drop_eq_getElem_cons hlt, List.cons_append] at hq
  have hslot : nextSlot u = slots[n] := nextSlot_of_queue hq hgap
  refine ⟨?_, by rw [fetched_queue, selected_of_queue hq hgap]⟩
  rw [step_of_not_star (i := .calPass (Spec.stepByte n) (sessionValue v0 v16 n))
    (by rw [hslot, hcode]; rfl) (by rw [hslot, hstar]),
    exec_calPass_accepted (s := fetched u) hn hready]

/-- After `n` of its steps the placed session has made that progress, and the others are still placed. -/
theorem run_session {v0 v16 : I16} {s : State} {slots rest : List Slot}
    (hp : SessionPlaced v0 v16 s.draws slots) (hready : ReadyFor 0 s.arch)
    (hq : s.queue = slots ++ rest) (n : Nat) (hn : n ≤ 16) :
    ∃ u : State, Host.Core.run Sys2Proof.core n s = .next u ∧ SessionProgress v0 s n u ∧
      u.queue = slots.drop n ++ rest ∧ u.draws = s.draws + n := by
  induction n with
  | zero => exact ⟨s, rfl, sessionProgress_start hready v0, hq, rfl⟩
  | succ n ih =>
    obtain ⟨u, hrun, hprogress, hqueue, hdraws⟩ := ih (by omega)
    obtain ⟨hstep, hrest⟩ := step_of_sessionPlaced hp (by omega) hprogress.ready hqueue hdraws
    refine ⟨_, (run_succ hrun).trans hstep,
      sessionProgress_step (sessionProgress_fetched hprogress) (by omega) (fun h0 => if_pos h0) _, ?_, ?_⟩
    · rw [respond_queue, sessionStep_queue, hrest]
    · rw [respond_draws, sessionStep_draws, fetched_draws, hdraws, Nat.add_assoc]

/-- A placed session runs to its end. -/
theorem sessionCompletes {v0 v16 : I16} {s : State} {slots rest : List Slot}
    (hp : SessionPlaced v0 v16 s.draws slots) (hready : ReadyFor 0 s.arch)
    (hq : s.queue = slots ++ rest) :
    ∃ u t : State, Host.Core.run Sys2Proof.core 16 s = .next u ∧
      Host.Core.run Sys2Proof.core 17 s = .next t ∧ Spec.sessionCompleted v0 v16 s rest u t := by
  obtain ⟨u, hrun, hprogress, hqueue, hdraws⟩ := run_session hp hready hq 16 (Nat.le_refl 16)
  obtain ⟨hstep, hrest⟩ := step_of_sessionPlaced hp (Nat.le_refl 16) hprogress.ready hqueue hdraws
  rw [List.drop_of_length_le hp.length.le, List.nil_append] at hrest
  exact ⟨u, _, hrun, (run_succ hrun).trans hstep, sessionCompleted_step hprogress hrest⟩

/-- The expansion of CAL_SEQUENCE is the 17 steps in order (R75). -/
theorem calSequenceSlots_eq (v0 v16 : I16) :
    calSequenceSlots v0 v16
      = (List.range 17).map fun n => sessionPart (Spec.stepByte n) (sessionValue v0 v16 n) := rfl

theorem sessionPlaced_calSequenceSlots {draws : Nat}
    (hgap : ∀ k, k < 17 → Config.gap (draws + k) = none) (v0 v16 : I16) :
    SessionPlaced v0 v16 draws (calSequenceSlots v0 v16) := by
  rw [calSequenceSlots_eq]
  refine ⟨by simp, fun n hn => ?_⟩
  rw [List.length_map, List.length_range] at hn
  simp only [List.getElem_map, List.getElem_range]
  exact ⟨rfl, rfl, hgap n hn⟩

/-- Whole operations in the order of the session are never preceded by a turn. -/
theorem sessionPlaced_of_map {v0 v16 : I16} {slots : List Slot}
    (h : slots.map (fun x => (x.code, x.star, x.part)) = (List.range 17).map fun n =>
      (encode (.calPass (Spec.stepByte n) (sessionValue v0 v16 n)), false, Part.whole))
    (draws : Nat) : SessionPlaced v0 v16 draws slots := by
  have hlen : slots.length = 17 := by simpa using congrArg List.length h
  refine ⟨hlen, fun n hn => ?_⟩
  have hslot := List.getElem_of_eq h (i := n) (by simpa using hn)
  simp only [List.getElem_map, List.getElem_range, Prod.mk.injEq] at hslot
  obtain ⟨hcode, hstar, hpart⟩ := hslot
  exact ⟨hcode, hstar, by rw [hpart, gapTurn_whole]⟩

/-- CAL_SEQUENCE placed for itself puts its expansion in front of what stands behind it. -/
theorem step_calSequence {v0 v16 : I16} {s : State} {answers : Option Answers} {rest : List Slot}
    (hq : s.queue = ⟨encode (.calSequence v0 v16), answers, false, .whole⟩ :: rest) :
    step s = .next { fetched s with queue := calSequenceSlots v0 v16 ++ rest } := by
  have hslot := nextSlot_of_queue hq (gapTurn_whole _)
  have hqueue : (fetched s).queue = rest := by
    rw [fetched_queue, selected_of_queue hq (gapTurn_whole _)]
  rw [step_of_not_star (i := .calSequence v0 v16) (by rw [hslot]; rfl) (by rw [hslot]), ← hqueue]
  rfl

/-- Settles O35: either way the 17 steps are placed in order, and each is accepted in its turn. -/
theorem factorySessionCompletes : Obligations.FactorySessionCompletes := by
  unfold Obligations.FactorySessionCompletes
  refine ⟨fun v0 v16 s slots rest hq hslots hstep hresistance hvoltage => ?_,
    fun v0 v16 s answers rest hq hstep hresistance hvoltage => ?_⟩
  · exact sessionCompletes (sessionPlaced_of_map hslots s.draws)
      ⟨hstep, fun _ => ⟨hresistance, hvoltage⟩⟩ hq
  · refine or_iff_not_imp_left.mpr fun hgap => ?_
    push Not at hgap
    have hexpand := step_calSequence hq
    obtain ⟨u, t, hu, ht, hdone⟩ := sessionCompletes
      (s := { fetched s with queue := calSequenceSlots v0 v16 ++ rest })
      (sessionPlaced_calSequenceSlots hgap v0 v16) ⟨hstep, fun _ => ⟨hresistance, hvoltage⟩⟩ rfl
    exact ⟨u, t, (run_of_step hexpand 16).trans hu, (run_of_step hexpand 17).trans ht, hdone⟩

end Sys2Proof.Proofs
end

section
/-!
SUPPORT. The ADC task's steps in their phases (40_adc_transport.md rules R96 to R100): the three conditions
they test as arithmetic, the retry's word, and the state a read leaves. After these, the statements on the
delay, the wait, the read and the phases.
-/

namespace Sys2Proof.Proofs

open Sys2Proof Sys2Proof.Machine

/-! ### The conditions of the wait and of the delay -/

theorem delayPending_iff (P : Machine.Params) (t t0 : U32) :
    delayPending P t t0 = true ↔ (t - t0).toNat < P.firstSampleDelayMs :=
  decide_eq_true_iff

theorem drdyReady_iff (P : Machine.Params) (e : Env) :
    drdyReady P e = true ↔ e.inputs.drdyLine = P.drdyReadyLevel :=
  beq_iff_eq

theorem drdyTimeout_iff (t t0 : U32) : drdyTimeout t t0 = true ↔ 200 ≤ (t - t0).toNat :=
  decide_eq_true_iff

/-! ### The steps -/

/-- In phase `p` the step of `p` completes, and does what the phase does. -/
theorem exec_adcStepOf_of_phase {p : AdcPhase} {s : State} (h : s.arch.adc.phase = p) :
    exec (adcStepOf p) s = .next (adcTaskBody p s) := by
  subst h
  exact exec_adcStepOf_enabled s

/-- In any other phase it faults, naming the phase the task is in (log 7). -/
theorem exec_adcStepOf_of_other_phase {p : AdcPhase} {s : State} (h : s.arch.adc.phase ≠ p) :
    exec (adcStepOf p) s = .fault (.stepNotEnabled s.arch.adc.phase) :=
  (exec_adcStepOf p s).trans (if_neg h)

/-- The word sent before goes out once more. The chip gets whatever that word makes of it (log 15), and a
word of the builder starts the conversion it asks for. -/
theorem timeoutRetry_eq (s : State) : ∃ (c : Chip) (d : Nat),
    timeoutRetry s = { s with
      arch := { s.arch with adc := { s.arch.adc with t0 := s.env.now } }
      chip := c
      chipSelect := true
      draws := d
      trace := s.trace ++ [.error (.adcTimeout s.arch.adc.channel s.arch.adc.cfg), .cs false,
        .cs true, .spiWrite s.arch.adc.cfg] } ∧
    ∀ ch m, s.arch.adc.cfg = cfgWord Config.params ch m →
      c = ⟨s.arch.adc.cfg, if m = .normal then .single else .continuous⟩ ∧ d = s.draws := by
  let asked := csAssert (csDeassert (s.raise (.adcTimeout s.arch.adc.channel s.arch.adc.cfg)))
  let sent := spiWrite16 s.arch.adc.cfg asked
  obtain ⟨c, d, hwrite⟩ := spiWrite16_frame s.arch.adc.cfg asked
  refine ⟨c, d, ?_, fun ch m hcfg => ?_⟩
  · calc timeoutRetry s
      _ = sent.withAdc { sent.arch.adc with t0 := sent.env.now } := rfl
      _ = _ := by
        simp [sent, hwrite, asked, csAssert, csDeassert, State.raise, State.emit, State.withAdc]
  · have hbuilt := hwrite.symm.trans (hcfg ▸ spiWrite16_cfgWord Config.params ch m _)
    refine ⟨(congrArg State.chip hbuilt).trans ?_, congrArg State.draws hbuilt⟩
    rw [hcfg]
    cases m <;> rfl

/-- The read's frame: the other channel is next, whatever the sample made of the measurements. -/
theorem adcRead_eq (P : Machine.Params) (s : State) :
    adcRead P s = Sys2Proof.Spec.afterRead s
      (process P s.env s.arch.adc.channel s.env.inputs.spiWord s.arch) := by
  let ended := csDeassert (spiReturns s.env.inputs.spiWord s)
  obtain ⟨cp, pp, cc, hprocess⟩ :=
    process_frame P s.env s.arch.adc.channel s.env.inputs.spiWord s.arch
  calc adcRead P s
    _ = (ended.withArch (process P s.env s.arch.adc.channel s.env.inputs.spiWord s.arch)).withAdc
          { (process P s.env s.arch.adc.channel s.env.inputs.spiWord s.arch).adc with
            channel := if s.arch.adc.channel = .cp then .pp else .cp, phase := .configure } := rfl
    _ = _ := by
      rw [hprocess]
      simp [ended, Sys2Proof.Spec.afterRead, spiReturns, csDeassert, State.emit, State.withChip,
        State.withArch, State.withAdc]

theorem exec_adcRead {s : State} (h : s.arch.adc.phase = .read) :
    exec .adcRead s = .next (Sys2Proof.Spec.afterRead s
      (process Config.params s.env s.arch.adc.channel s.env.inputs.spiWord s.arch)) :=
  (exec_adcStepOf_of_phase h).trans (congrArg _ (adcRead_eq _ s))

/-! ### The samples of the two channels (41_signal_pipeline.md rule R111) -/

section
variable (P : Machine.Params) (env : Env) (code : I16) {a : Arch}

theorem process_cp_discarded (h : a.cp.invalid ≠ 0) : process P env .cp code a
    = { a with cp := { a.cp with raw := code, invalid := a.cp.invalid - 1 } } :=
  if_pos h

theorem process_cp_applied (h : a.cp.invalid = 0) : process P env .cp code a
    = updateCp P env code { a with cp := { a.cp with raw := code } } :=
  if_neg (not_not_intro h)

theorem process_pp_discarded (h : a.pp.invalid ≠ 0) : process P env .pp code a
    = { a with pp := { a.pp with raw := code, invalid := a.pp.invalid - 1 } } :=
  if_pos h

theorem process_pp_applied (h : a.pp.invalid = 0) : process P env .pp code a
    = updatePp code { a with pp := { a.pp with raw := code } } :=
  if_neg (not_not_intro h)

end

/-! ### The statements -/

/-- Settles O37. -/
theorem adcDelayWaitsThenSelects : Obligations.AdcDelayWaitsThenSelects := by
  unfold Obligations.AdcDelayWaitsThenSelects
  intro s hphase
  refine (exec_adcStepOf_of_phase hphase).trans (congrArg Host.Outcome.next ?_)
  simp only [adcTaskBody, adcDelay, delayPending_iff]
  rfl

/-- Settles O38: the line's level is read first, then the time. -/
theorem adcWaitPollsAndRetries : Obligations.AdcWaitPollsAndRetries := by
  unfold Obligations.AdcWaitPollsAndRetries
  intro s hphase ready waited
  have hexec : exec .adcWaitDrdy s = .next
      (if ready then s.withAdc { s.arch.adc with phase := .read }
      else if 200 ≤ waited then timeoutRetry s else s) := by
    refine (exec_adcStepOf_of_phase hphase).trans (congrArg Host.Outcome.next ?_)
    simp only [adcTaskBody, adcWaitDrdy, drdyReady_iff, drdyTimeout_iff, ready, waited]
  refine ⟨fun hready => ?_, fun hready hwaited => ?_, fun hready hwaited => ?_⟩
  · rw [hexec, if_pos hready]
    rfl
  · rw [hexec, if_neg hready, if_neg (Nat.not_le.mpr hwaited)]
  · rw [hexec, if_neg hready, if_pos hwaited]
    obtain ⟨c, d, hretry, hbuilder⟩ := timeoutRetry_eq s
    exact ⟨c, d, congrArg _ hretry, hbuilder⟩

/-- Settles O39: what the read leaves behind around the sample, then the sample by its channel and its
countdown. -/
theorem adcReadProcessesTheSample : Obligations.AdcReadProcessesTheSample := by
  unfold Obligations.AdcReadProcessesTheSample
  intro s hphase code cp pp
  have hread := exec_adcRead hphase
  refine ⟨fun hch hinvalid => ?_, fun hch hinvalid => ?_, fun hch hinvalid => ?_,
    fun hch hinvalid => ?_⟩ <;> rw [hch] at hread
  · rw [hread, process_cp_discarded _ _ _ hinvalid]
  · exact ⟨_, rfl, by rw [hread, process_cp_applied _ _ _ hinvalid]; rfl⟩
  · rw [hread, process_pp_discarded _ _ _ hinvalid]
  · exact ⟨_, rfl, by rw [hread, process_pp_applied _ _ _ hinvalid]; rfl⟩

/-- Settles O40: each of the four is the step of its phase. -/
theorem adcStepsFaultInAnotherPhase : Obligations.AdcStepsFaultInAnotherPhase := by
  unfold Obligations.AdcStepsFaultInAnotherPhase
  intro i p s hmem hphase
  have hstep : i = adcStepOf p := by
    cases p <;> simpa [adcStepOf] using hmem
  rw [hstep]
  exact exec_adcStepOf_of_other_phase hphase

end Sys2Proof.Proofs
end

section
/-!
SUPPORT. The moving average over time (41_signal_pipeline.md rule R110): read from its position, the ring of
slots is the window of the last inputs, oldest first. After this, the statement on the moving average.
-/

namespace Sys2Proof.Proofs

open Sys2Proof Sys2Proof.Machine

/-! ### The window an average holds -/

/-- The initialised average `m` holds the inputs `w`, the oldest first. -/
structure HoldsWindow (w : List Int) (m : MovAvg) : Prop where
  init : m.init = true
  pos : m.pos < m.slot.length
  oldestFirst : m.slot.rotate m.pos = w
  sum : m.sum = w.sum

theorem maUpdate_first_value {m : MovAvg} {len : Nat} (x : Int) (hlen : 0 < len)
    (h : m.init = false) : (maUpdate m len x).2 = x := by
  rw [maUpdate_value, maUpdate_first m len x h]
  exact Int.mul_tdiv_cancel_left x (by omega)

/-- The first input fills the whole window. -/
theorem holdsWindow_feed_first {m : MovAvg} {len : Nat} (x : Int) (hlen : 0 < len)
    (h : m.init = false) : HoldsWindow (List.replicate len x) (Sys2Proof.Spec.feed len m x) := by
  rw [Sys2Proof.Spec.feed, maUpdate_first m len x h]
  exact ⟨rfl, by simpa using hlen, List.rotate_zero _, by simp⟩

/-- A later input takes the place of the oldest, and is then the newest. -/
theorem holdsWindow_feed {m : MovAvg} {oldest : Int} {w : List Int}
    (h : HoldsWindow (oldest :: w) m) (x : Int) :
    HoldsWindow (w ++ [x]) (Sys2Proof.Spec.feed (w.length + 1) m x) := by
  obtain ⟨hinit, hpos, hrotate, hsum⟩ := h
  have hget : m.slot.getD m.pos 0 = m.slot[m.pos] := List.getD_eq_getElem _ _ hpos
  obtain ⟨before, after, hslot, hlen, hset⟩ := List.exists_of_set (a' := x) hpos
  generalize m.slot[m.pos] = replaced at hslot hget
  rw [hslot, ← hlen, List.rotate_append_length_eq, List.cons_append] at hrotate
  obtain ⟨rfl, rfl⟩ := List.cons.inj hrotate
  rw [Sys2Proof.Spec.feed, maUpdate_later m _ x hinit, hset, hget]
  have hlength : (after ++ before).length + 1 = (before ++ x :: after).length := by simp; omega
  rw [hlength]
  refine ⟨rfl, Nat.mod_lt _ (by simp), ?_, ?_⟩
  · calc (before ++ x :: after).rotate ((m.pos + 1) % (before ++ x :: after).length)
      _ = ((before ++ [x]) ++ after).rotate (before ++ [x]).length := by
        rw [List.rotate_mod, List.append_cons, List.length_append, hlen, List.length_singleton]
      _ = after ++ before ++ [x] := by
        rw [List.rotate_append_length_eq, List.append_assoc]
  · simp only [List.sum_append, List.sum_cons, List.sum_nil] at hsum ⊢
    omega

/-- After `xs` the window has moved on by as many inputs. -/
theorem holdsWindow_foldl (xs : List Int) {w : List Int} {m : MovAvg} (h : HoldsWindow w m)
    (hw : w ≠ []) :
    HoldsWindow ((w ++ xs).drop xs.length) (xs.foldl (Sys2Proof.Spec.feed w.length) m) := by
  induction xs generalizing w m with
  | nil => simpa using h
  | cons x xs ih =>
    obtain ⟨oldest, rest, rfl⟩ := List.exists_cons_of_ne_nil hw
    simpa using ih (holdsWindow_feed h x) (by simp)

/-- The last `w.length` inputs of `w ++ xs`, counted from the end or from the start. -/
theorem sum_take_reverse (w xs : List Int) :
    ((w ++ xs).reverse.take w.length).sum = ((w ++ xs).drop xs.length).sum := by
  rw [List.take_reverse, List.sum_reverse, List.length_append, Nat.add_sub_cancel_left]

/-- Settles O44. -/
theorem movingAverageOfLastInputs : Obligations.MovingAverageOfLastInputs := by
  unfold Obligations.MovingAverageOfLastInputs
  refine ⟨fun len m x hinit => ?_, fun len m x y xs hlen hinit => ⟨?_, ?_⟩⟩
  · refine Prod.ext (maUpdate_later m len x hinit) ?_
    rw [maUpdate_value, maUpdate_later m len x hinit]
  · exact Prod.ext (maUpdate_first m len x hinit) (maUpdate_first_value x hlen hinit)
  · have hwindow := holdsWindow_foldl (xs ++ [y]) (holdsWindow_feed_first x hlen hinit)
      (by simp; omega)
    rw [List.foldl_append, List.length_replicate] at hwindow
    have hsum := hwindow.sum
    rw [maUpdate_value, List.append_assoc]
    rw [← sum_take_reverse, List.length_replicate] at hsum
    exact congrArg (Int.tdiv · len) hsum

end Sys2Proof.Proofs
end

section
/-!
SUPPORT. The formulas of the signal pipeline (41_signal_pipeline.md rules R114 to R121): the CP voltage map
before its wrap, the branches of the two resistances, the effective set. After these, the statements on the
formulas and on UPDATE_CP and UPDATE_PP.
-/

namespace Sys2Proof.Proofs

open Sys2Proof Sys2Proof.Machine

/-! ### The CP voltage map (R114) -/

/-- A value read back from an `i16` field is the value stored exactly when it fits. -/
theorem wrap16_toInt_eq_iff (v : Int) : (wrap16 v).toInt = v ↔ -32768 ≤ v ∧ v ≤ 32767 := by
  constructor
  · intro h
    have hlo := BitVec.le_toInt (x := wrap16 v)
    have hhi := BitVec.toInt_lt (x := wrap16 v)
    omega
  · rintro ⟨hlo, hhi⟩
    exact BitVec.toInt_ofInt_eq_self (by decide) (by omega) (by omega)

/-- The CP voltage in millivolts before the wrap. -/
def cpMillivolts (code : Int) : Int := Int.tdiv ((code - 6574) * 24000) 25069 - 12000

theorem cpVoltage_eq (code : Int) : cpVoltage code = wrap16 (cpMillivolts code) := rfl

theorem cpMillivolts_mono {c c' : Int} (h : c ≤ c') : cpMillivolts c ≤ cpMillivolts c' :=
  Int.sub_le_sub_right (Int.tdiv_le_tdiv (by decide) (by omega)) _

/-- The map leaves the `i16` range between codes -15121 and -15120. -/
theorem cpMillivolts_ge_iff (code : Int) : -32768 ≤ cpMillivolts code ↔ -15120 ≤ code := by
  have hfirst : cpMillivolts (-15120) = -32768 := by decide
  have hlast : cpMillivolts (-15121) = -32769 := by decide
  constructor
  · intro h
    by_contra hcode
    have := cpMillivolts_mono (show code ≤ -15121 by omega)
    omega
  · intro h
    have := cpMillivolts_mono h
    omega

/-- Settles O46: the map is monotone, so its ends and the wrap's threshold are four of its values. -/
theorem cpVoltageMap : Obligations.CpVoltageMap := by
  unfold Obligations.CpVoltageMap
  refine ⟨fun code hlo hhi => ?_, by decide, by decide, by decide⟩
  have hmin : -49664 ≤ cpMillivolts code := cpMillivolts_mono hlo
  have hmax : cpMillivolts code ≤ 13076 := cpMillivolts_mono hhi
  refine ⟨rfl, hmin, hmax, ?_⟩
  change (cpVoltage code).toInt = cpMillivolts code ↔ _
  rw [cpVoltage_eq, wrap16_toInt_eq_iff, cpMillivolts_ge_iff]
  omega

/-! ### The CP resistance (R118) -/

section
variable {d vmax rref vref high : Int}

theorem cpResistance_open (h : vmax - 1000 ≤ high) : cpResistance d vmax rref vref high = 0xFFFF :=
  if_pos h

theorem cpResistance_unusable (h : vref ≤ d ∨ vmax ≤ vref) :
    cpResistance d vmax rref vref high = 0xFFFF := by
  unfold cpResistance
  split
  · rfl
  · exact if_pos (by omega)

/-- Below the open band and with a usable reference, the diode drop decides. -/
theorem cpResistance_solved (hopen : high < vmax - 1000) (hd : d < vref) (hmax : vref < vmax) :
    cpResistance d vmax rref vref high = if high ≤ d then 0 else
      min 0xFFFF (Int.tdiv (rref * (high - d) * (vmax - vref)) ((vref - d) * (vmax - high))) := by
  unfold cpResistance
  rw [if_neg (Int.not_le.mpr hopen), if_neg (by omega)]
  exact if_congr (by omega) rfl rfl

/-- At the reference voltage the divider's quotient cancels. -/
theorem cpResistance_reference (hr : rref ≤ 0xFFFF) (hd : d < vref) (hmax : vref < vmax - 1000) :
    cpResistance d vmax rref vref vref = rref := by
  have hden : (vref - d) * (vmax - vref) ≠ 0 := mul_ne_zero (by omega) (by omega)
  rw [cpResistance_solved hmax hd (by omega), if_neg (by omega), mul_assoc,
    Int.mul_tdiv_cancel _ hden, min_eq_right hr]

end

/-- Settles O47. -/
theorem cpResistanceSolvesTheDivider : Obligations.CpResistanceSolvesTheDivider := by
  unfold Obligations.CpResistanceSolvesTheDivider
  intro d vmax rref vref high hrref
  refine ⟨cpResistance_open, cpResistance_unusable, fun hopen hd hmax hlow => ?_,
    fun hopen hd hmax hhigh => ?_, cpResistance_mem hrref, cpResistance_reference⟩
  · rw [cpResistance_solved hopen hd hmax, if_pos hlow]
  · rw [cpResistance_solved hopen hd hmax, if_neg (Int.not_le.mpr hhigh)]

/-! ### The PP resistance (R121) -/

theorem ppResistance_eq (v : Int) : ppResistance v =
    if 4850 ≤ v then 0xFFFF else if v ≤ 0 then 0 else Int.tdiv (1000 * v) (5000 - v) := rfl

/-- Below the open band the quotient is at most the one at 4849 mV. -/
theorem ppResistance_le {v : Int} (h : v < 4850) : ppResistance v ≤ 32112 := by
  rw [ppResistance_eq, if_neg (Int.not_le.mpr h)]
  split
  · decide
  · have hlt : 1000 * v < 32113 * (5000 - v) := by omega
    rw [Int.tdiv_eq_ediv_of_nonneg (by omega)]
    exact Int.le_of_lt_add_one (Int.ediv_lt_of_lt_mul (by omega) hlt)

/-- Settles O48. -/
theorem ppResistanceFormula : Obligations.PpResistanceFormula := by
  unfold Obligations.PpResistanceFormula
  exact ⟨ppResistance_eq, fun v h => ⟨(ppResistance_mem v).1, ppResistance_le h⟩, by decide⟩

/-! ### UPDATE_PP (R119, R120) -/

/-- An eighth of an `i16` code fits `i16`. -/
theorem ppVoltage_toInt (code : I16) : (ppVoltage code.toInt).toInt = Int.tdiv code.toInt 8 := by
  have hlo := BitVec.le_toInt (x := code)
  have hhi := BitVec.toInt_lt (x := code)
  have hmin : Int.tdiv (-32768) 8 ≤ Int.tdiv code.toInt 8 := Int.tdiv_le_tdiv (by decide) (by omega)
  have hmax : Int.tdiv code.toInt 8 ≤ Int.tdiv 32767 8 := Int.tdiv_le_tdiv (by decide) (by omega)
  exact (wrap16_toInt_eq_iff _).mpr ⟨le_trans (by decide) hmin, le_trans hmax (by decide)⟩

theorem exec_updatePp (code : I16) (s : State) :
    exec (.updatePp code) s = .next (s.withArch (updatePp code s.arch)) := rfl

/-- Settles O42: the resistance is that of the voltage as stored, which is the voltage computed. -/
theorem updatePpPublishes : Obligations.UpdatePpPublishes := by
  unfold Obligations.UpdatePpPublishes
  intro code s v r
  have hr : ppResistance (ppVoltage code.toInt).toInt = r := by rw [ppVoltage_toInt, ppResistance_eq]
  rw [exec_updatePp, updatePp, hr]
  rfl

/-! ### UPDATE_CP (R113, R115 to R117) -/

/-- The effective set is one of the two sets, and neither has a zero divisor (10_state.md rule R32). -/
theorem eff_div_ne_zero {s : State} (h : divisorsNonzero s) : (eff s.arch).div.toInt ≠ 0 := by
  obtain ⟨hfactory, huser⟩ := h
  refine (BitVec.toInt_ne (y := 0)).mpr ?_
  unfold eff
  split
  · exact huser
  · exact hfactory

theorem calScale_of_ne_zero {v mul div : Int} (h : div ≠ 0) :
    calScale v mul div = Int.tdiv (v * mul) div :=
  if_neg h

/-- The resistance from the reference point the duty selects (R117). -/
theorem cpResistance_refPoint (d vmax high : Int) (e : CalParams) (duty : U16) (ma : U32) :
    cpResistance d vmax (refPoint e duty ma).1 (refPoint e duty ma).2 high =
      if duty = 1000 then cpResistance d vmax 2700 e.ref2700.toInt high
      else cpResistance d vmax 880 (e.ref880.getD (idx880 ma.toNat) 0).toInt high := by
  unfold refPoint
  split <;> rfl

theorem exec_updateCp (code : I16) (s : State) :
    exec (.updateCp code) s = .next (s.withArch (updateCp Config.params s.env code s.arch)) := rfl

/-- The voltages, scaled by a divisor that is not zero. -/
theorem cpVoltages_eq (code : I16) {s : State} (h : divisorsNonzero s) :
    cpVoltages code s.arch = { s.arch with cp := { s.arch.cp with
      voltage := cpVoltage code.toInt
      calVoltage := BitVec.ofInt 16 (Int.tdiv ((cpVoltage code.toInt).toInt * (eff s.arch).mul.toInt)
        (eff s.arch).div.toInt) } } := by
  rw [cpVoltages, calScale_of_ne_zero (eff_div_ne_zero h)]
  rfl

/-- At duty 0 the sample stops after the voltages (R116). -/
theorem updateCp_stops (P : Machine.Params) (env : Env) (code : I16) {a : Arch}
    (h : a.out.duty = 0) : updateCp P env code a = cpVoltages code a :=
  if_pos h

/-- At any other duty the resistance is published before the estimator runs (R270). -/
theorem updateCp_publishes (P : Machine.Params) (env : Env) (code : I16) {a : Arch}
    (h : a.out.duty ≠ 0) :
    updateCp P env code a = ccUpdate P env code (cpPublish P env (cpVoltages code a)) :=
  if_neg h

/-- Settles O41. -/
theorem updateCpPublishes : Obligations.UpdateCpPublishes := by
  unfold Obligations.UpdateCpPublishes
  intro code s hdiv e v cal min high index r volts
  have hvolts : cpVoltages code s.arch = { s.arch with cp := volts } := cpVoltages_eq code hdiv
  refine ⟨fun hduty => ?_, fun hduty => ⟨?_, _, exec_updateCp code s⟩⟩
  · rw [exec_updateCp, updateCp_stops _ _ _ hduty, hvolts]
    rfl
  · rw [exec_updateCp, updateCp_publishes _ _ _ hduty, hvolts, cpPublish, cpResistance_refPoint]
    rfl

end Sys2Proof.Proofs
end

section
/-!
SUPPORT. Continuous calibration (42_continuous_calibration.md): when the estimator runs, the closed form of a
push into its queue, and the sorted queue the rank code is read from. After these, the statements on the rank
code and on CC_UPDATE.
-/

namespace Sys2Proof.Proofs

open Sys2Proof Sys2Proof.Machine

/-! ### The rank code (R144) -/

theorem sortedCodes_perm (q : List I16) : (sortedCodes q).Perm q :=
  List.perm_insertionSort _ q

/-- Ordered by their signed values the codes are a total order, so insertion sort orders them. -/
theorem sortedCodes_ascending (q : List I16) :
    (sortedCodes q).Pairwise fun x y => x.toInt ≤ y.toInt := by
  have htotal : Std.Total fun x y : I16 => x.toInt ≤ y.toInt := ⟨fun x y => le_total x.toInt y.toInt⟩
  have htrans : IsTrans I16 fun x y => x.toInt ≤ y.toInt := ⟨fun _ _ _ => le_trans⟩
  exact List.pairwise_insertionSort _ q

/-- Of a queue that reaches past the rank index the rank code is an element, not the default. -/
theorem sortedCodes_getElem?_rank {n : Nat} {q : List I16} (h : 2 * n / 3 < q.length) :
    (sortedCodes q)[2 * n / 3]? = some (rankCode n q) := by
  rw [← (sortedCodes_perm q).length_eq] at h
  rw [rankCode, List.getD_eq_getElem _ _ h, List.getElem?_eq_getElem h]

/-- Settles O45. -/
theorem rankCodeIsTwoThirdsRank : Obligations.RankCodeIsTwoThirdsRank := by
  unfold Obligations.RankCodeIsTwoThirdsRank
  intro q hq
  have hpos : 0 < q.length := List.length_pos_of_ne_nil hq
  have hindex : 2 * q.length / 3 < q.length := by omega
  exact ⟨hindex, sortedCodes q, sortedCodes_perm q, sortedCodes_ascending q,
    sortedCodes_getElem?_rank hindex⟩

/-! ### CC_UPDATE (R141 to R143) -/

/-- The five conditions of R141. -/
theorem ccEnabled_iff (a : Arch) (t : U32) (boxDisabled : Bool) :
    ccEnabled a t boxDisabled = true ↔
      a.sm.state = .a ∧ 500 ≤ (t - a.sm.lastStateChange).toNat ∧ boxDisabled = false
        ∧ a.cal.step = 0 ∧ a.out.duty = 1000 :=
  decide_eq_true_iff

/-- The queue after a push: the oldest entry replaced, or at the first push every entry (R143). -/
theorem queuePush_eq (n : Nat) (a : I16) (c : Cc) : queuePush n a c = { c with
    queue := if c.qinit = true then c.queue.set c.qpos a else List.replicate n a
    qpos := if c.qinit = true then (c.qpos + 1) % n else 0
    qinit := true } := by
  cases h : c.qinit with
  | false => simp [queuePush, h]
  | true => simp [queuePush, h]

theorem exec_ccUpdate (code : I16) (s : State) :
    exec (.ccUpdate code) s = .next (s.withArch (ccUpdate Config.params s.env code s.arch)) := rfl

theorem ccUpdate_frozen (P : Machine.Params) {env : Env} (code : I16) {a : Arch}
    (h : ¬ ccEnabled a env.now env.inputs.boxDisabled = true) : ccUpdate P env code a = a :=
  if_neg h

theorem ccUpdate_enabled (P : Machine.Params) {env : Env} (code : I16) {a : Arch}
    (h : ccEnabled a env.now env.inputs.boxDisabled = true) :
    ccUpdate P env code a = { a with cc := ccEstimate P code (eff a) a.cc } :=
  if_pos h

/-- Settles O43: an enabled update is the closed form of the push, scaled by a divisor that is not zero. -/
theorem ccUpdateRunsOnlyEnabled : Obligations.CcUpdateRunsOnlyEnabled := by
  unfold Obligations.CcUpdateRunsOnlyEnabled
  intro code s hdiv enabled e n avg queue max
  have henabled : ccEnabled s.arch s.env.now s.env.inputs.boxDisabled = true ↔ enabled :=
    ccEnabled_iff ..
  refine ⟨fun hoff => ?_, fun hon => ?_⟩
  · rw [exec_ccUpdate, ccUpdate_frozen _ _ (mt henabled.mp hoff)]
    rfl
  · rw [exec_ccUpdate, ccUpdate_enabled _ _ (henabled.mpr hon)]
    simp only [ccEstimate, queuePush_eq, calScale_of_ne_zero (eff_div_ne_zero hdiv)]
    rfl

end Sys2Proof.Proofs
end

section
/-!
SUPPORT. The session commands one at a time (43_factory_calibration.md rules R156 to R165): capturing into the
factory set and driving the outputs are independent, so each accepted command is a SET_OUTPUT and a write of
the calibration fields. After these, the statements on CAL_STEP and CAL_ABORT.
-/

namespace Sys2Proof.Proofs

open Sys2Proof Sys2Proof.Machine

/-! ### SET_OUTPUT does not read the factory set -/

/-- A choice commutes with an update that its condition does not depend on. -/
theorem commute_ite {c : State → Prop} [DecidablePred c] {f g update : State → State}
    (hf : Function.Commute f update) (hg : Function.Commute g update) (hc : ∀ s, c (update s) ↔ c s) :
    Function.Commute (fun s => if c s then f s else g s) update := by
  intro s
  simp only [hc, hf s, hg s, apply_ite update]

/-- Neither reading `S.factory` nor writing it, SET_OUTPUT does the same before and after a write of it. -/
theorem setOutput_withFactory (duty : U16) (req : Bool) (p : CalParams) (s : State) :
    setOutput duty req (s.withFactory p) = (setOutput duty req s).withFactory p := by
  have hduty : Function.Commute (guardDuty duty) (·.withFactory p) :=
    commute_ite (fun _ => rfl) .id_left fun _ => .rfl
  have hrelay : Function.Commute (guardRelay req) (·.withFactory p) :=
    commute_ite (fun _ => rfl) .id_left fun _ => .rfl
  have hunlock : Function.Commute (guardUnlock req) (·.withFactory p) :=
    commute_ite (fun _ => rfl) .id_left fun _ => .rfl
  have hlock : Function.Commute guardRequestLock (·.withFactory p) := fun _ => rfl
  have hset : Function.Commute (setOutput duty req) (·.withFactory p) :=
    commute_ite (hlock.comp_left hduty) (hunlock.comp_left (hrelay.comp_left hduty)) fun u => by
      rw [hduty u]
      rfl
  exact hset s

theorem exec_setOutput (duty : U16) (req : Bool) (s : State) :
    exec (.setOutput duty req) s = .next (setOutput duty req s) := rfl

/-! ### The accepted commands -/

/-- CAL_STEP of the step a session is ready for, with that step's password, is accepted. -/
theorem exec_calStep_accepted {n : Nat} {s : State} (hn : n ≤ 16) (h : ReadyFor n s.arch)
    (value : I16) :
    exec (.calStep (Spec.stepByte n) (Spec.sessionPassword n) value) s
      = .next ((sessionStep Config.params (Spec.stepByte n) value s).respond (.ok true)) := by
  rw [← passwordOf_stepByte hn, ← exec_calPass, exec_calPass_accepted hn h]

/-- The factory set with the reference that step `n` of steps 1 to 15 captures (R160, R161). -/
def referenceCaptured (n : Nat) (a : Arch) : CalParams :=
  if n = 1 then { a.factory with ref2700 := a.cp.highVoltage.setWidth 16 }
  else { a.factory with
    ref880 := a.factory.ref880.setIfInBounds (n - 2) (a.cp.highVoltage.setWidth 16) }

/-- The duties of steps 1 to 15 in order, R164. -/
theorem dutyField_table : ∀ k < 15, dutyField (6000 + 2000 * k) =
    [100, 133, 166, 200, 233, 266, 300, 333, 366, 400, 433, 466, 500, 533, 566].getD k 0 := by
  decide

/-- Steps 1 to 15 drive their duty with the relay off, capture a reference and move on. -/
theorem sessionStep_reference {n : Nat} (h1 : 1 ≤ n) (h15 : n ≤ 15) (P : Machine.Params) (value : I16)
    (s : State) :
    sessionStep P (Spec.stepByte n) value s =
      ((setOutput (dutyField (6000 + 2000 * (n - 1))) false s).withFactory
        (referenceCaptured n s.arch)).withCalStep (Spec.stepByte (n + 1)) := by
  rw [← setOutput_withFactory]
  obtain rfl | h2 : n = 1 ∨ 2 ≤ n := by omega
  · rw [sessionStep_one, sessionStep1, wrap16_toInt]
    rfl
  · rw [sessionStep_table h2 h15, sessionStepTable, wrap16_toInt, referenceCaptured,
      if_neg (by omega)]

/-- Step 16 drives full duty with the relay off, saves the set with its captured difference, and ends the
session. -/
theorem sessionStep_difference (P : Machine.Params) (value : I16) (s : State) :
    sessionStep P (Spec.stepByte 16) value s =
      (persistSaveFactory P ((setOutput 1000 false s).withFactory
        { s.arch.factory with diff := P.diffCapture s.arch value })).withCalStep 0 := by
  rw [← setOutput_withFactory, sessionStep_sixteen]
  rfl

/-- CAL_ABORT of a running session with its step's password is accepted. -/
theorem exec_calAbort_accepted {s : State} (h : s.arch.cal.step ≠ 0) :
    exec (.calAbort (Spec.sessionPassword s.arch.cal.step.toNat)) s =
      .next ((((setOutput 1000 false s).withFactory (Spec.factoryLoaded s)).withCalStep 0).respond
        (.ok true)) := by
  rw [← setOutput_withFactory, ← loadFactory_eq]
  exact congrArg Host.Outcome.next (if_pos (decide_eq_true ⟨h, (passwordOf_eq _).symm⟩))

theorem exec_calAbort_rejected {password : U32} {s : State}
    (h : calAbortAccepted password s.arch = false) :
    exec (.calAbort password) s = .next { s with responses := s.responses ++ [.ok false] } :=
  congrArg Host.Outcome.next (if_neg (by simp [h]))

/-! ### The statements -/

/-- Settles O28: each ground contradicts one of the checks that come before the first write. -/
theorem rejectedSessionCommandsChangeNothing : Obligations.RejectedSessionCommandsChangeNothing := by
  unfold Obligations.RejectedSessionCommandsChangeNothing
  refine ⟨fun step password value s hground => ?_, fun password s hground => ?_⟩
  · refine exec_calStep_rejected (decide_eq_false fun hok => ?_) value
    obtain ⟨hstep, -, hpassword, hstart⟩ := hok
    rw [passwordOf_eq] at hpassword
    obtain hne | hne | ⟨h0, hopen⟩ | ⟨h0, hvoltage⟩ := hground
    · exact hne hstep
    · exact hne hpassword
    · exact hopen (hstart h0).1
    · exact (hstart h0).2 hvoltage
  · refine exec_calAbort_rejected (decide_eq_false fun hok => ?_)
    obtain ⟨hrunning, hpassword⟩ := hok
    rw [passwordOf_eq] at hpassword
    exact hground.elim hrunning fun hne => hne hpassword

/-- Settles O29: step 0 is accepted, and calls no SET_OUTPUT. -/
theorem sessionStepZeroCaptures : Obligations.SessionStepZeroCaptures := by
  unfold Obligations.SessionStepZeroCaptures
  intro value s hstep hresistance hvoltage
  exact exec_calStep_accepted (n := 0) (by decide) ⟨hstep, fun _ => ⟨hresistance, hvoltage⟩⟩ value

/-- Settles O30: the accepted step in closed form, with its duty read from the table. -/
theorem sessionStepsOneToFifteenCapture : Obligations.SessionStepsOneToFifteenCapture := by
  unfold Obligations.SessionStepsOneToFifteenCapture
  intro n value s h1 h15 hstep
  have hready : ReadyFor n s.arch := ⟨hstep, fun h0 => absurd h0 (Nat.ne_of_gt h1)⟩
  have hlast : n ≤ 16 := Nat.le_succ_of_le h15
  rw [← dutyField_table (n - 1) (by omega)]
  refine ⟨_, exec_setOutput .., setOutput_duty .., setOutput_relay_off .., ?_⟩
  rw [exec_calStep_accepted hlast hready, sessionStep_reference h1 h15,
    ← setOutput_responses (dutyField (6000 + 2000 * (n - 1))) false s]
  generalize setOutput (dutyField (6000 + 2000 * (n - 1))) false s = u
  rfl

/-- Settles O31: the accepted step in closed form; SET_OUTPUT leaves pages and results alone. -/
theorem sessionStepSixteenPersists : Obligations.SessionStepSixteenPersists := by
  unfold Obligations.SessionStepSixteenPersists
  intro value s hstep factory page
  have hready : ReadyFor 16 s.arch := ⟨hstep, nofun⟩
  refine ⟨_, exec_setOutput .., setOutput_duty .., setOutput_relay_off ..,
    (exec_calStep_accepted (by decide) hready value).trans ?_⟩
  rw [sessionStep_difference, ← setOutput_responses 1000 false s, ← setOutput_pages 1000 false s]
  rfl

/-- Settles O32: the accepted abort in closed form. -/
theorem sessionAbortRestores : Obligations.SessionAbortRestores := by
  unfold Obligations.SessionAbortRestores
  intro s hrunning
  refine ⟨_, exec_setOutput .., setOutput_duty .., setOutput_relay_off .., ?_⟩
  rw [exec_calAbort_accepted hrunning, ← setOutput_responses 1000 false s]
  rfl

end Sys2Proof.Proofs
end

section
/-!
SUPPORT. SET_STATE as an entry of the state it leaves (44_iec61851_state_machine.md rules R188 to R190), and
from it the closed form, the charging timer over all operations, and the hold-off for ticks.
-/

namespace Sys2Proof.Proofs

open Sys2Proof Sys2Proof.Machine

/-! ### SET_STATE is an entry or nothing -/

/-- The state `dst` entered at time `t`: stamps, charging timer and notifications (R188, R190). -/
def entered (dst : ChargeState) (t : U32) (s : State) : State :=
  { s with
    arch := { s.arch with sm := { s.arch.sm with
      state := dst, lastStateChange := t, lastErrorTime := (leaveEf t s.arch.sm).lastErrorTime
      chargingStart := entryStart dst t s.arch.sm.chargingStart } }
    trace := s.trace ++ entryEvents dst }

theorem leaveEf_lastErrorTime (t : U32) (sm : Sm) :
    (leaveEf t sm).lastErrorTime = if sm.state = .ef then some t else sm.lastErrorTime := by
  unfold leaveEf
  split <;> rfl

/-- The hold-off as SET_STATE tests it, after leaving EF has stamped the time. -/
theorem holdoff_leaveEf (t : U32) (sm : Sm) :
    holdoff (leaveEf t sm).lastErrorTime t = true ↔
      sm.state = .ef ∨ holdoff sm.lastErrorTime t = true := by
  rw [leaveEf_lastErrorTime]
  split
  · simp [holdoff, elapsed, *]
  · simp [*]

/-- SET_STATE writes nothing but by entering another state: a refused C in state B leaves even the error
time as it was. -/
theorem setState_cases (new : ChargeState) (t : U32) (s : State) :
    setState new t s = s ∨
      ∃ dst, dst ≠ s.arch.sm.state ∧ setState new t s = entered dst t s := by
  rw [setState_eq]
  by_cases hsame : new = s.arch.sm.state
  · exact .inl (if_pos hsame)
  rw [if_neg hsame, ← leaveEf_lastErrorTime]
  dsimp only
  by_cases hstay : (if new = .c ∧ holdoff (leaveEf t s.arch.sm).lastErrorTime t = true then .b
      else new) = s.arch.sm.state
  · have hb : s.arch.sm.state = .b := by
      split at hstay
      · exact hstay.symm
      · exact absurd hstay hsame
    exact .inl (by rw [if_pos hstay, leaveEf_lastErrorTime, if_neg (by simp [hb])])
  · exact .inr ⟨_, hstay, if_neg hstay⟩

theorem setState_of_stay {new : ChargeState} {t : U32} {s : State}
    (h : (setState new t s).arch.sm.state = s.arch.sm.state) : setState new t s = s := by
  obtain hs | ⟨dst, hne, hs⟩ := setState_cases new t s
  · exact hs
  · rw [hs] at h
    exact absurd h hne

theorem setState_of_enter {new dst : ChargeState} {t : U32} {s : State}
    (h : (setState new t s).arch.sm.state = dst) (hne : dst ≠ s.arch.sm.state) :
    setState new t s = entered dst t s := by
  obtain hs | ⟨dst', -, hs⟩ := setState_cases new t s
  · rw [hs] at h
    exact absurd h.symm hne
  · rw [hs] at h
    rw [hs, ← h]
    rfl

/-- A target other than C is always reached. -/
theorem setState_state_of_ne_c {new : ChargeState} (h : new ≠ .c) (t : U32) (s : State) :
    (setState new t s).arch.sm.state = new := by
  rw [setState_state, if_neg fun hc => h hc.1]

/-- The error time changes only by leaving EF. -/
theorem setState_lastErrorTime (new : ChargeState) (t : U32) (s : State) :
    (setState new t s).arch.sm.lastErrorTime =
      if s.arch.sm.state = .ef ∧ (setState new t s).arch.sm.state ≠ .ef then some t
      else s.arch.sm.lastErrorTime := by
  obtain hs | ⟨dst, hne, hs⟩ := setState_cases new t s <;> rw [hs]
  · rw [if_neg fun h => h.2 h.1]
  · change (leaveEf t s.arch.sm).lastErrorTime =
      if s.arch.sm.state = .ef ∧ dst ≠ .ef then some t else s.arch.sm.lastErrorTime
    rw [leaveEf_lastErrorTime]
    by_cases hef : s.arch.sm.state = .ef
    · rw [if_pos hef, if_pos ⟨hef, hef ▸ hne⟩]
    · rw [if_neg hef, if_neg fun h => hef h.1]

@[simp] theorem setState_id3GuardTime (new : ChargeState) (t : U32) (s : State) :
    (setState new t s).arch.sm.id3GuardTime = s.arch.sm.id3GuardTime := by
  obtain hs | ⟨dst, -, hs⟩ := setState_cases new t s
  · rw [hs]
  · rw [hs]
    rfl

@[simp] theorem setState_out (new : ChargeState) (t : U32) (s : State) :
    (setState new t s).arch.out = s.arch.out := by
  obtain ⟨sm, ev, h, -⟩ := setState_frame new t s
  rw [h]

@[simp] theorem setState_env (new : ChargeState) (t : U32) (s : State) :
    (setState new t s).env = s.env := by
  obtain ⟨sm, ev, h, -⟩ := setState_frame new t s
  rw [h]

/-- Settles O54: each clause fixes the state SET_STATE leaves, and with it the entry. -/
theorem setStateClosedForm : Obligations.SetStateClosedForm := by
  unfold Obligations.SetStateClosedForm
  intro new time s sm errorTime held enter
  have enters {dst : ChargeState} (hstate : (setState new time s).arch.sm.state = dst)
      (hne : dst ≠ sm.state) : exec (.setState new time) s
        = .next (enter dst (entryStart dst time sm.chargingStart) (entryEvents dst)) := by
    have herror : errorTime = (leaveEf time sm).lastErrorTime := (leaveEf_lastErrorTime time sm).symm
    simp only [enter, herror]
    exact congrArg Host.Outcome.next (setState_of_enter hstate hne)
  have hheld : held ↔ sm.state = .ef ∨ holdoff sm.lastErrorTime time = true := by
    rw [← holdoff_leaveEf, leaveEf_lastErrorTime, holdoff_iff]
  have hstate := setState_state new time s
  refine ⟨fun hsame => ?_, fun hne ha => ?_, fun hne hb => ?_, fun hne hc hfree => ?_,
    fun hne hc hrefused hnb => ?_, fun hc hrefused hb => ?_, fun hne hdef => ?_⟩
  · exact congrArg Host.Outcome.next (by rw [setState_eq, if_pos hsame])
  · subst ha
    exact enters (setState_state_of_ne_c (by simp) time s) hne
  · subst hb
    exact enters (setState_state_of_ne_c (by simp) time s) hne
  · subst hc
    exact enters (hstate.trans (if_neg fun h => hfree (hheld.mpr h.2.2))) hne
  · exact enters (hstate.trans (if_pos ⟨hc, hc ▸ hne.symm, hheld.mp hrefused⟩)) hnb.symm
  · have hnc : sm.state ≠ .c := by simp [hb]
    exact congrArg Host.Outcome.next
      (setState_of_stay ((hstate.trans (if_pos ⟨hc, hnc, hheld.mp hrefused⟩)).trans hb.symm))
  · obtain rfl | rfl := hdef
    · exact enters (setState_state_of_ne_c (by simp) time s) hne
    · exact enters (setState_state_of_ne_c (by simp) time s) hne

/-! ### What a tick leaves in the state machine -/

/-- A tick leaves the state machine alone, or as a SET_STATE at its own time leaves it, but for the ID.3
hold stamp before and the button flag after. -/
theorem tick_sm (s : State) :
    (tick s).arch.sm = s.arch.sm ∨ ∃ (new : ChargeState) (u : State) (g : Option U32) (b : Bool),
      u.arch.sm = { s.arch.sm with id3GuardTime := g } ∧
      (tick s).arch.sm = { (setState new s.env.now u).arch.sm with buttonPressed := b } := by
  obtain ht | ⟨new, g, ev, u, rfl, -, ht⟩ := tick_cases s <;> rw [ht]
  · exact .inl rfl
  · rw [actuate_eq, setOutput_arch_sm]
    exact .inr ⟨new, _, g, _, rfl, rfl⟩

/-! ### The charging timer (R190, R195) -/

/-- From `before` to `after` a running timer kept its start unless A was entered, and a timer started only
on entering C. -/
structure TimerRuns (before after : Sm) : Prop where
  keeps : ∀ x, before.chargingStart = some x → after.chargingStart = some x ∨
    (after.chargingStart = none ∧ after.state = .a ∧ before.state ≠ .a)
  starts : ∀ x, before.chargingStart = none → after.chargingStart = some x →
    after.state = .c ∧ before.state ≠ .c ∧ after.lastStateChange = x

theorem timerRuns_of_unchanged {before after : Sm}
    (h : after.chargingStart = before.chargingStart) : TimerRuns before after where
  keeps _ hrun := .inl (h.trans hrun)
  starts _ hnone hsome := absurd (hnone.symm.trans (h.symm.trans hsome)) nofun

theorem timerRuns_entered {dst : ChargeState} {s : State} (hne : dst ≠ s.arch.sm.state) (t : U32) :
    TimerRuns s.arch.sm (entered dst t s).arch.sm := by
  cases dst with
  | a => exact ⟨fun _ _ => .inr ⟨rfl, rfl, hne.symm⟩, fun _ _ hsome => by cases hsome⟩
  | c =>
    constructor
    · exact fun x hrun => .inl (by simp [entered, entryStart, hrun])
    · exact fun x hnone hsome =>
        ⟨rfl, hne.symm, by simpa [entered, entryStart, hnone] using hsome⟩
  | b | d | ef => exact timerRuns_of_unchanged rfl

theorem timerRuns_setState (new : ChargeState) (t : U32) (s : State) :
    TimerRuns s.arch.sm (setState new t s).arch.sm := by
  obtain hs | ⟨dst, hne, hs⟩ := setState_cases new t s <;> rw [hs]
  · exact timerRuns_of_unchanged rfl
  · exact timerRuns_entered hne t

theorem timerRuns_tick (s : State) : TimerRuns s.arch.sm (tick s).arch.sm := by
  obtain ht | ⟨new, u, g, b, hu, ht⟩ := tick_sm s <;> rw [ht]
  · exact timerRuns_of_unchanged rfl
  · obtain ⟨keeps, starts⟩ := timerRuns_setState new s.env.now u
    rw [hu] at keeps starts
    exact ⟨keeps, starts⟩

/-- Settles O17: besides the resets, only SET_STATE and TICK write the timer (R44). -/
theorem chargingTimerRunsUntilA : Obligations.ChargingTimerRunsUntilA := by
  unfold Obligations.ChargingTimerRunsUntilA
  intro i s t h hreset
  have hruns : TimerRuns s.arch.sm t.arch.sm := by
    obtain ⟨-, -, -, -, -, -, -, -, -, hsm, hbutton, -⟩ := fieldsHaveTheirWritersOnly i s t h
    cases i with
    | tick => cases h; exact timerRuns_tick s
    | setState new now => cases h; exact timerRuns_setState new now s
    | startCharging | stopCharging =>
      rw [hbutton (by simp [Instr.mnemonic])]
      exact timerRuns_of_unchanged rfl
    | resetPowerOn | resetSupervising => exact absurd hreset (by simp [Instr.mnemonic])
    | _ =>
      rw [hsm (by simp [Instr.mnemonic])]
      exact timerRuns_of_unchanged rfl
  exact ⟨hruns.keeps, hruns.starts⟩

/-! ### The hold-off (R188, R189) -/

/-- SET_STATE enters C only from a state other than EF and with the hold-off over. -/
theorem setState_enters_c {new : ChargeState} {t : U32} {s : State} (hbefore : s.arch.sm.state ≠ .c)
    (hafter : (setState new t s).arch.sm.state = .c) :
    s.arch.sm.state ≠ .ef ∧ holdoff s.arch.sm.lastErrorTime t = false := by
  rw [setState_state] at hafter
  split at hafter
  · cases hafter
  · rename_i hfree
    simpa [hafter, hbefore] using hfree

/-- Settles O18: a tick's state and error time are those of one SET_STATE at its own time. -/
theorem holdOffKeepsTicksOutOfC : Obligations.HoldOffKeepsTicksOutOfC := by
  unfold Obligations.HoldOffKeepsTicksOutOfC
  intro s t h
  cases h
  obtain ht | ⟨new, u, g, b, hu, ht⟩ := tick_sm s <;> rw [ht]
  · exact ⟨fun hne hc => absurd hc hne, fun hef hne => absurd hef hne, fun _ => rfl⟩
  have hstate : u.arch.sm.state = s.arch.sm.state := by rw [hu]
  have herror : u.arch.sm.lastErrorTime = s.arch.sm.lastErrorTime := by rw [hu]
  rw [← hstate, ← herror]
  refine ⟨fun hne hc => ?_, fun hef hne => ?_, fun hne => ?_⟩
  · obtain ⟨hef, hover⟩ := setState_enters_c hne hc
    refine ⟨hef, fun e he => Nat.le_of_not_lt fun hlt => ?_⟩
    rw [(holdoff_iff _ _).mpr ⟨e, he, hlt⟩] at hover
    cases hover
  · exact (setState_lastErrorTime ..).trans (if_pos ⟨hef, hne⟩)
  · exact (setState_lastErrorTime ..).trans (if_neg fun h => hne h.1)

end Sys2Proof.Proofs
end

section
/-!
SUPPORT. TICK branch by branch (44_iec61851_state_machine.md rules R180 to R187, R191 to R193): the fault
path, the evaluated path with its target and hold stamp, and what the actuation leaves. After these, the
statements on ticks and on the PWM encoding.
-/

namespace Sys2Proof.Proofs

open Sys2Proof Sys2Proof.Machine

/-! ### The PWM encoding and the PP current (R193, R194) -/

theorem dutyForCurrent_mem (ma : Nat) : 80 ≤ dutyForCurrent ma ∧ dutyForCurrent ma ≤ 1000 := by
  unfold dutyForCurrent Config.kDutyMin Config.kDutyMax
  split_ifs <;> omega

/-- The clamp keeps the encoding within the 16-bit operand. -/
theorem dutyField_toNat (ma : Nat) : (dutyField ma).toNat = dutyForCurrent ma := by
  have hmax := (dutyForCurrent_mem ma).2
  rw [dutyField, BitVec.toNat_ofNat, Nat.mod_eq_of_lt (by omega)]

/-- Settles O56: the branches of the encoding, its clamp, and the listed values by computation. -/
theorem dutyForCurrentFormula : Obligations.DutyForCurrentFormula := by
  unfold Obligations.DutyForCurrentFormula
  refine ⟨fun ma => ⟨fun h0 => if_pos h0, fun hpos hlow => ?_, fun hhigh => ?_,
    (dutyForCurrent_mem ma).1, (dutyForCurrent_mem ma).2, dutyField_toNat ma⟩, by decide⟩
  · rw [dutyForCurrent, if_neg (Nat.ne_of_gt hpos), if_pos hlow]
  · rw [dutyForCurrent, if_neg (Nat.ne_of_gt (Nat.zero_lt_of_lt hhigh)), if_neg (Nat.not_le.mpr hhigh)]

/-- Settles O22: the function is `PpCurrent` with the open parameters. -/
theorem getPpCurrentAnswers : Obligations.GetPpCurrentAnswers := by
  unfold Obligations.GetPpCurrentAnswers
  exact ⟨rfl, ppCurrent Config.params, if_pos rfl, fun s => rfl⟩

/-! ### Actuation (R191, R192) -/

@[simp] theorem actuate_sm (st : ChargeState) (ma : Nat) (s : State) :
    (actuate st ma s).arch.sm =
      { s.arch.sm with buttonPressed := if st = .a then false else s.arch.sm.buttonPressed } := by
  rw [actuate_eq, setOutput_arch_sm]

theorem actuate_duty (st : ChargeState) (ma : Nat) (s : State) :
    (actuate st ma s).arch.out.duty.toNat =
      if st = .b ∨ st = .c then dutyForCurrent ma else 1000 := by
  rw [actuate_eq, setOutput_duty]
  split
  · exact dutyField_toNat ma
  · rfl

/-- The relay is on after an actuation of C with the lock closed, or of C with the relay on before. -/
theorem actuate_contactor (st : ChargeState) (ma : Nat) (s : State) :
    (actuate st ma s).arch.out.contactor = true ↔
      st = .c ∧ (s.env.inputs.lockState = .closed ∨ s.arch.out.contactor = true) := by
  rw [actuate_eq, setOutput_contactor]
  by_cases hc : st = .c
  · by_cases hlock : s.env.inputs.lockState = .closed <;> simp [hc, hlock]
  · simp [hc]

/-- The tick's actuation of the state `u` is in is the one call of SET_OUTPUT the rules name. -/
theorem actuated_actuate (ma : Nat) (u : State) :
    Spec.actuated ma u (actuate u.arch.sm.state ma u) := by
  unfold Spec.actuated
  cases u.arch.sm.state <;> rfl

/-! ### A tick that is deferred or finds a fault (R181 to R183) -/

/-- Settles O49: the session is tested first, the countdown after the fault inputs. -/
theorem tickDefers : Obligations.TickDefers := by
  unfold Obligations.TickDefers
  intro s hdefer
  refine congrArg Host.Outcome.next ?_
  obtain hsession | ⟨hcc, hjumper, hinvalid⟩ := hdefer
  · exact if_pos hsession
  · by_cases hsession : s.arch.cal.step ≠ 0
    · exact if_pos hsession
    · rw [tick, if_neg hsession, if_neg (by simp [hcc]), if_neg (by simp [hjumper]), if_pos hinvalid]

/-- Outside a session a fault takes the fault path, with the event of the contactor fault first. -/
theorem tick_fault {s : State} (hsession : s.arch.cal.step = 0)
    (hfault : s.env.inputs.ccError = true ∨ s.env.inputs.jumperUnconfigured = true) :
    tick s = faultEntry
      (if s.env.inputs.ccError = true then .contactorFault else .configFault) s := by
  rw [tick, if_neg (not_not_intro hsession)]
  by_cases hcc : s.env.inputs.ccError = true
  · rw [if_pos hcc, if_pos hcc]
  · rw [if_neg hcc, if_neg hcc, if_pos (hfault.resolve_left hcc)]

/-- Settles O50: the fault path is SET_STATE of EF, which leaves the error time, and full duty. -/
theorem tickForcesEfOnAFault : Obligations.TickForcesEfOnAFault := by
  unfold Obligations.TickForcesEfOnAFault
  intro s hsession hfault
  refine ⟨_, _, rfl, exec_setOutput .., congrArg Host.Outcome.next (tick_fault hsession hfault), ?_,
    setOutput_duty .., setOutput_relay_off .., ?_⟩
  · rw [setOutput_arch_sm, setState_state_of_ne_c (by simp)]
  · rw [setOutput_arch_sm, setState_lastErrorTime, setState_state_of_ne_c (by simp), if_neg (by simp)]

/-! ### A tick that evaluates (R184 to R187) -/

/-- Nothing defers the tick and no fault preempts it. -/
structure TickEvaluates (s : State) : Prop where
  session : s.arch.cal.step = 0
  contactorOk : s.env.inputs.ccError = false
  configOk : s.env.inputs.jumperUnconfigured = false
  measured : s.arch.cp.invalid = 0

/-- The state between SET_STATE and the actuation of an evaluated tick with this target and hold stamp. -/
def evaluated (target : ChargeState) (hold : Option U32) (s : State) : State :=
  setState target s.env.now
    { s with arch := { s.arch with sm := { s.arch.sm with id3GuardTime := hold } } }

theorem tick_evaluated {s : State} (h : TickEvaluates s) {target : ChargeState} {hold : Option U32}
    (he : evaluate s.env.now s.env.inputs.effMaxMa.toNat s.arch = (target, hold)) :
    tick s = actuate (evaluated target hold s).arch.sm.state s.env.inputs.effMaxMa.toNat
      (evaluated target hold s) := by
  obtain ⟨hsession, hcc, hjumper, hinvalid⟩ := h
  rw [tick, if_neg (not_not_intro hsession), if_neg (by simp [hcc]), if_neg (by simp [hjumper]),
    if_neg (not_not_intro hinvalid), evaluateAndActuate, he]
  rfl

theorem id3_iff (a : Arch) : id3 a = true ↔ a.out.duty ≠ 1000 ∧ a.out.contactor = false := by
  simp [id3, pwmOn]

/-- Outside ID.3 mode, or at or below 10000 ohm, the band decides and the hold is dropped (R187). -/
theorem evaluate_outside_id3 {a : Arch} (t : U32) (ma : Nat)
    (h : a.out.duty = 1000 ∨ a.out.contactor = true ∨ a.cp.resistance.toNat ≤ 10000) :
    evaluate t ma a = (classify a.cp.resistance.toNat ma, none) := by
  refine if_neg fun ⟨hid3, hr⟩ => ?_
  obtain ⟨hduty, hcontactor⟩ := (id3_iff a).mp hid3
  obtain hd | hc | hle := h
  · exact hduty hd
  · rw [hcontactor] at hc
    cases hc
  · exact Nat.not_le.mpr hr hle

theorem evaluate_in_id3 {a : Arch} (t : U32) (ma : Nat) (hduty : a.out.duty ≠ 1000)
    (hcontactor : a.out.contactor = false) (hr : 10000 < a.cp.resistance.toNat) :
    evaluate t ma a = id3Evaluate a.cp.resistance.toNat t a.sm :=
  if_pos ⟨(id3_iff a).mpr ⟨hduty, hcontactor⟩, hr⟩

/-- Settles O51: the target is `Classify`, which leaves no hold stamp. -/
theorem tickClassifiesAndActuates : Obligations.TickClassifiesAndActuates := by
  unfold Obligations.TickClassifiesAndActuates
  intro s hsession hcc hjumper hinvalid houtside r ma target
  have ht := tick_evaluated ⟨hsession, hcc, hjumper, hinvalid⟩
    (evaluate_outside_id3 s.env.now ma houtside)
  exact ⟨evaluated target none s, _, rfl, congrArg Host.Outcome.next ht, actuated_actuate ma _⟩

/-! ### The hold of ID.3 mode (R185, R186) -/

/-- The hold of ID.3 mode has lasted 2500 ms at time `t`. -/
def Id3Held (t : U32) (sm : Sm) : Prop :=
  ∃ g, sm.id3GuardTime = some g ∧ 2500 ≤ (t - g).toNat

theorem id3Evaluate_below {r : Nat} (h : ¬ 30000 < r) (t : U32) (sm : Sm) :
    id3Evaluate r t sm = (.b, none) := if_neg h

theorem id3Evaluate_held {r : Nat} (h : 30000 < r) {t : U32} {sm : Sm} (hheld : Id3Held t sm) :
    id3Evaluate r t sm = (.a, some (sm.id3GuardTime.getD t)) := by
  obtain ⟨g, hg, hlong⟩ := hheld
  refine (if_pos h).trans ?_
  rw [hg]
  exact if_pos hlong

theorem id3Evaluate_waiting {r : Nat} (h : 30000 < r) {t : U32} {sm : Sm} (hheld : ¬ Id3Held t sm) :
    id3Evaluate r t sm = (sm.state, some (sm.id3GuardTime.getD t)) := by
  refine (if_pos h).trans ?_
  cases hg : sm.id3GuardTime with
  | none => rfl
  | some g => exact if_neg fun hlong => hheld ⟨g, hg, hlong⟩

/-- The target and the stamp of ID.3 mode: A only after the hold, else the present state or B. -/
theorem id3Evaluate_spec (r : Nat) (t : U32) (sm : Sm) :
    ∃ target, id3Evaluate r t sm
        = (target, if 30000 < r then some (sm.id3GuardTime.getD t) else none) ∧
      (¬ 30000 < r → target = .b) ∧ (30000 < r → Id3Held t sm → target = .a) ∧
      (30000 < r → ¬ Id3Held t sm → target = sm.state) := by
  by_cases h : 30000 < r
  · rw [if_pos h]
    by_cases hheld : Id3Held t sm
    · exact ⟨.a, id3Evaluate_held h hheld, fun hb => absurd h hb, fun _ _ => rfl,
        fun _ hw => absurd hheld hw⟩
    · exact ⟨sm.state, id3Evaluate_waiting h hheld, fun hb => absurd h hb, fun _ hh => absurd hh hheld,
        fun _ _ => rfl⟩
  · rw [if_neg h]
    exact ⟨.b, id3Evaluate_below h t sm, fun _ => rfl, fun ha => absurd ha h, fun ha => absurd ha h⟩

/-- A target that is not an entry of C is reached. -/
theorem evaluated_state {target : ChargeState} {s : State}
    (h : target ≠ .c ∨ target = s.arch.sm.state) (hold : Option U32) :
    (evaluated target hold s).arch.sm.state = target := by
  obtain hc | hstay := h
  · exact setState_state_of_ne_c hc ..
  · rw [evaluated, setState_eq, if_pos hstay]
    exact hstay.symm

/-- Settles O52: the target and the stamp are those of `Id3Evaluate`, and it never enters C. -/
theorem tickId3HoldsBeforeA : Obligations.TickId3HoldsBeforeA := by
  unfold Obligations.TickId3HoldsBeforeA
  intro s hsession hcc hjumper hinvalid hduty hcontactor hr above hold held
  obtain ⟨target, he, hbelow, hheld, hwaiting⟩ :=
    id3Evaluate_spec s.arch.cp.resistance.toNat s.env.now s.arch.sm
  have hreached : target ≠ .c ∨ target = s.arch.sm.state := by
    by_cases ha : above
    · by_cases hh : held
      · exact .inl (by simp [hheld ha hh])
      · exact .inr (hwaiting ha hh)
    · exact .inl (by simp [hbelow ha])
  have ht := tick_evaluated ⟨hsession, hcc, hjumper, hinvalid⟩
    ((evaluate_in_id3 s.env.now s.env.inputs.effMaxMa.toNat hduty hcontactor hr).trans he)
  refine ⟨target, evaluated target hold s, _, hbelow, hheld, hwaiting, rfl,
    congrArg Host.Outcome.next ht, actuated_actuate .., ?_, ?_⟩ <;> rw [actuate_sm]
  · exact evaluated_state hreached hold
  · exact setState_id3GuardTime ..

/-! ### The bands and their outputs (R184, R189, R197) -/

theorem classify_eq (r ma : Nat) :
    classify r ma =
      if 10000 < r then .a
      else if 1790 < r then .b
      else if 560 < r then (if 0 < ma then .c else .b)
      else if 150 < r then .d
      else .ef := rfl

theorem classify_a {r : Nat} (h : 10000 < r) (ma : Nat) : classify r ma = .a := if_pos h

theorem classify_b {r : Nat} (h : 1790 < r) (hr : r ≤ 10000) (ma : Nat) : classify r ma = .b := by
  rw [classify_eq, if_neg (by omega), if_pos h]

/-- The band of C, which takes a current limit. -/
theorem classify_c {r : Nat} (h : 560 < r) (hr : r ≤ 1790) (ma : Nat) :
    classify r ma = if 0 < ma then .c else .b := by
  rw [classify_eq, if_neg (by omega), if_neg (by omega), if_pos h]

theorem classify_d {r : Nat} (h : 150 < r) (hr : r ≤ 560) (ma : Nat) : classify r ma = .d := by
  rw [classify_eq, if_neg (by omega), if_neg (by omega), if_neg (by omega), if_pos h]

theorem classify_ef {r : Nat} (h : r ≤ 150) (ma : Nat) : classify r ma = .ef := by
  rw [classify_eq, if_neg (by omega), if_neg (by omega), if_neg (by omega), if_neg (by omega)]

/-- The hold-off refuses an entry of C: from EF, or within 30000 ms of the last error (R188, R189). -/
def RefusesC (t : U32) (sm : Sm) : Prop :=
  sm.state ≠ .c ∧ (sm.state = .ef ∨ ∃ e, sm.lastErrorTime = some e ∧ (t - e).toNat < 30000)

theorem refusesC_iff (t : U32) (sm : Sm) :
    RefusesC t sm ↔ sm.state ≠ .c ∧ (sm.state = .ef ∨ holdoff sm.lastErrorTime t = true) := by
  rw [RefusesC, holdoff_iff]

/-- A target C becomes B where the hold-off refuses it. -/
theorem evaluated_state_refused {s : State} (h : RefusesC s.env.now s.arch.sm) (hold : Option U32) :
    (evaluated .c hold s).arch.sm.state = .b :=
  (setState_state ..).trans (if_pos ⟨rfl, (refusesC_iff ..).mp h⟩)

theorem evaluated_state_free {s : State} (h : ¬ RefusesC s.env.now s.arch.sm) (hold : Option U32) :
    (evaluated .c hold s).arch.sm.state = .c :=
  (setState_state ..).trans (if_neg fun hc => h ((refusesC_iff ..).mpr hc.2))

/-- Settles O53: the state is what SET_STATE makes of the band, the outputs are those of its actuation. -/
theorem tickReachesTheBandOutputs : Obligations.TickReachesTheBandOutputs := by
  unfold Obligations.TickReachesTheBandOutputs
  intro s hsession hcc hjumper hinvalid houtside r ma refused
  have hevaluates : TickEvaluates s := ⟨hsession, hcc, hjumper, hinvalid⟩
  have he : evaluate s.env.now ma s.arch = (classify r ma, none) :=
    evaluate_outside_id3 s.env.now ma (houtside.imp_right .inl)
  have ht := tick_evaluated hevaluates he
  have hstate {target : ChargeState} (hband : classify r ma = target) (hne : target ≠ .c) :
      (evaluated (classify r ma) none s).arch.sm.state = target := by
    rw [hband]
    exact evaluated_state (.inl hne) none
  refine ⟨_, rfl, ?_⟩
  rw [ht, actuate_sm, actuate_duty, actuate_contactor]
  refine ⟨fun ha => ?_, fun hb hb' => ?_, fun hc hc' hrefused => ?_, fun hc hc' hma hfree => ?_,
    fun hd hd' => ?_, fun hef => ?_, rfl, ?_⟩
  · have hs := hstate (classify_a ha ma) (by simp)
    exact ⟨hs, if_pos hs⟩
  · exact hstate (classify_b hb hb' ma) (by simp)
  · obtain hma | hlimit := Nat.eq_zero_or_pos ma
    · exact hstate ((classify_c hc hc' ma).trans (if_neg (by omega))) (by simp)
    · have hband : classify r ma = .c := (classify_c hc hc' ma).trans (if_pos hlimit)
      rw [hband]
      exact evaluated_state_refused (hrefused.resolve_left (Nat.ne_of_gt hlimit)) none
  · have hband : classify r ma = .c := (classify_c hc hc' ma).trans (if_pos hma)
    rw [hband]
    exact evaluated_state_free hfree none
  · exact hstate (classify_d hd hd' ma) (by simp)
  · exact hstate (classify_ef hef ma) (by simp)
  · rw [evaluated, setState_env, setState_out]

end Sys2Proof.Proofs
end

section
/-!
SUPPORT. The Output Guard (45_output_guard.md): its three parts as closed terms, which operations emit none
of its events and raise no countdown, and when the relay is engaged. After each, its statement.
-/

namespace Sys2Proof.Proofs

open Sys2Proof Sys2Proof.Machine

/-! ### Raising a countdown (R112) -/

/-- A countdown raised to at least `n`. -/
def raised (inv : U8) (n : Nat) : U8 := BitVec.ofNat 8 (max inv.toNat n)

theorem raised_toNat (inv : U8) {n : Nat} (h : n < 256) : (raised inv n).toNat = max inv.toNat n := by
  rw [raised, BitVec.toNat_ofNat, Nat.mod_eq_of_lt (by omega)]

theorem maxU8_eq_raised (a b : U8) : maxU8 a b = raised a b.toNat :=
  BitVec.eq_of_toNat_eq (by rw [maxU8_toNat, raised_toNat a b.isLt])

theorem raised_zero (inv : U8) : raised inv 0 = inv :=
  BitVec.eq_of_toNat_eq (by rw [raised_toNat inv (by decide), Nat.max_zero])

/-- Requests that overlap combine by maximum (R214). -/
theorem raised_raised (inv : U8) {m : Nat} (h : m < 256) (n : Nat) :
    raised (raised inv m) n = raised inv (max m n) := by
  rw [raised, raised_toNat inv h, max_assoc, raised]

/-! ### The parts of SET_OUTPUT (R206, R208, R209) -/

theorem guardDuty_eq (duty : U16) (s : State) :
    guardDuty duty s = { s with
      arch := { s.arch with
        out := { s.arch.out with duty := duty }
        cp := { s.arch.cp with
          invalid := raised s.arch.cp.invalid (if duty ≠ s.arch.out.duty then 2 else 0) } }
      trace := s.trace ++ if duty ≠ s.arch.out.duty then [.pwmSet duty] else [] } := by
  obtain ⟨rfl, heq⟩ | ⟨hnew, heq⟩ := guardDuty_cases duty s
  · simp [heq, raised_zero]
  · rw [heq, if_pos hnew, if_pos hnew]
    simp [invalidateCp, maxU8_eq_raised, State.emit, State.withOut, State.withArch]

theorem guardRelay_eq (req : Bool) (s : State) :
    guardRelay req s = { s with
      arch := { s.arch with
        out := { s.arch.out with contactor := req }
        cp := { s.arch.cp with
          invalid := raised s.arch.cp.invalid (if s.arch.out.contactor ≠ req then 4 else 0) }
        pp := { s.arch.pp with
          invalid := raised s.arch.pp.invalid (if s.arch.out.contactor ≠ req then 4 else 0) } }
      trace := s.trace
        ++ if s.arch.out.contactor ≠ req then [.ccInvalidate 5, .relaySet req] else [] } := by
  obtain ⟨rfl, heq⟩ | ⟨hnew, heq⟩ := guardRelay_cases req s
  · simp [heq, raised_zero]
  · rw [heq, if_pos hnew, if_pos hnew]
    simp [invalidateCp, invalidatePp, maxU8_eq_raised, State.emit, State.withOut, State.withArch]

theorem guardUnlock_eq (req : Bool) (s : State) :
    guardUnlock req s =
      let unlocks := req = false ∧ s.env.inputs.lockState ≠ .opened
      { s with
        arch := { s.arch with
          out := { s.arch.out with
            lockRequested := if unlocks then false else s.arch.out.lockRequested } }
        trace := s.trace ++ if unlocks then [.lockRequest false] else [] } := by
  by_cases h : req = false ∧ s.env.inputs.lockState ≠ .opened
  · rw [guardUnlock, if_pos (by simpa [lockOpen] using h)]
    simp [h, State.withOut, State.emit]
  · rw [guardUnlock, if_neg (by simpa [lockOpen] using h)]
    simp only [h, if_false, List.append_nil]

/-- A request with the lock not closed is deferred after the duty part (R207). -/
theorem setOutput_deferred (duty : U16) {s : State} (h : s.env.inputs.lockState ≠ .closed) :
    setOutput duty true s = guardRequestLock (guardDuty duty s) :=
  if_pos ⟨rfl, by simpa [lockClosed] using h⟩

theorem setOutput_undeferred (duty : U16) {req : Bool} {s : State}
    (h : req = true → s.env.inputs.lockState = .closed) :
    setOutput duty req s = guardUnlock req (guardRelay req (guardDuty duty s)) := by
  refine if_neg fun ⟨hreq, hlock⟩ => ?_
  simp [lockClosed, h hreq] at hlock

/-- The CP countdown after both parts: a relay change outweighs a duty change (R214). -/
theorem raised_duty_relay (inv : U8) (sameDuty sameRelay : Prop) [Decidable sameDuty]
    [Decidable sameRelay] :
    raised (raised inv (if sameDuty then 0 else 2)) (if sameRelay then 0 else 4) =
      raised inv (if sameRelay then if sameDuty then 0 else 2 else 4) := by
  rw [raised_raised inv (by split <;> decide)]
  congr 1
  split_ifs <;> rfl

/-- Settles O55: the parts in their order, after the deferral is decided. -/
theorem setOutputClosedForm : Obligations.SetOutputClosedForm := by
  unfold Obligations.SetOutputClosedForm
  intro duty req s out lock newDuty deferred switched unlocks raisedTo
  refine congrArg Host.Outcome.next ?_
  have hraised : raisedTo = raised := rfl
  by_cases hdefer : req = true ∧ lock ≠ .closed
  · obtain ⟨rfl, hlock⟩ := hdefer
    rw [setOutput_deferred duty hlock, guardDuty_eq]
    have hd : deferred = true := by simpa [deferred] using hlock
    simp [hd, switched, unlocks, newDuty, out, hraised, raised_zero, guardRequestLock, State.withOut,
      State.emit]
  · have hlock : req = true → lock = .closed := by simpa using hdefer
    rw [setOutput_undeferred duty hlock, guardDuty_eq, guardRelay_eq, guardUnlock_eq]
    have hd : deferred = false := by simpa [deferred] using hlock
    simp [hd, switched, unlocks, newDuty, out, lock, hraised, raised_duty_relay]

/-! ### Operations that emit no event of the guard (R210) -/

/-- From `s` to `t` the trace grew by events that are none of the guard's. -/
def NoGuardEvent (s t : State) : Prop :=
  ∃ ev, t.trace = s.trace ++ ev ∧ ∀ e ∈ ev, Spec.guardEvent e = false

namespace NoGuardEvent

theorem refl (s : State) : NoGuardEvent s s := ⟨[], (List.append_nil _).symm, nofun⟩

theorem trans {s t u : State} (h : NoGuardEvent s t) (h' : NoGuardEvent t u) : NoGuardEvent s u := by
  obtain ⟨ev, htrace, hev⟩ := h
  obtain ⟨ev', htrace', hev'⟩ := h'
  exact ⟨ev ++ ev', by rw [htrace', htrace, List.append_assoc],
    fun e he => (List.mem_append.mp he).elim (hev e) (hev' e)⟩

end NoGuardEvent

theorem noGuardEvent_emit (s : State) {e : Event} (h : Spec.guardEvent e = false) :
    NoGuardEvent s (s.emit e) :=
  ⟨[e], rfl, by simpa using h⟩

theorem noGuardEvent_spiWrite16 (w : U16) (s : State) : NoGuardEvent s (spiWrite16 w s) := by
  obtain ⟨c, d, h⟩ := spiWrite16_frame w s
  rw [h]
  exact noGuardEvent_emit s rfl

theorem noGuardEvent_setState (new : ChargeState) (t : U32) (s : State) :
    NoGuardEvent s (setState new t s) := by
  obtain h | ⟨dst, -, h⟩ := setState_cases new t s <;> rw [h]
  · exact .refl s
  · exact ⟨entryEvents dst, rfl, by cases dst <;> decide⟩

theorem noGuardEvent_setUserCalibration (P : Machine.Params) (password : U32) (active : Bool)
    (p : CalParams) (s : State) : NoGuardEvent s (setUserCalibration P password active p s) := by
  unfold setUserCalibration
  split
  · exact noGuardEvent_emit s rfl
  · exact .refl s

/-- The ADC task emits the edges of chip select, its exchanges and its timeout. -/
theorem noGuardEvent_adcTaskBody (p : AdcPhase) (s : State) : NoGuardEvent s (adcTaskBody p s) := by
  have edge (u : State) (level : Bool) : NoGuardEvent u (u.emit (.cs level)) := noGuardEvent_emit u rfl
  cases p with
  | configure =>
    exact ((edge s true).trans (noGuardEvent_spiWrite16 _ (csAssert s))).trans (edge _ false)
  | delay =>
    simp only [adcTaskBody, adcDelay]
    split
    · exact .refl s
    · exact edge s true
  | waitDrdy =>
    simp only [adcTaskBody, adcWaitDrdy]
    split_ifs
    · exact .refl s
    · obtain ⟨c, d, h, -⟩ := timeoutRetry_eq s
      exact ⟨_, by rw [h], by simp [Spec.guardEvent]⟩
    · exact .refl s
  | read =>
    rw [adcTaskBody, adcRead_eq]
    exact ⟨_, rfl, by simp [Spec.guardEvent]⟩

/-- The operations that are SET_OUTPUT, or call it, or are a reset (R210). -/
def DrivesOutputs (i : Instr) : Prop :=
  i.mnemonic ∈ ["SET_OUTPUT", "TICK", "CAL_STEP", "CAL_PASS", "CAL_ABORT", "RESET_POWER_ON",
    "RESET_SUPERVISING"]

theorem noGuardEvent_exec {i : Instr} {s t : State} (h : exec i s = .next t) (hi : ¬ DrivesOutputs i) :
    NoGuardEvent s t := by
  have adcStep (p : AdcPhase) (h : exec (adcStepOf p) s = .next t) : NoGuardEvent s t := by
    rw [(adcStepOf_next h).2]
    exact noGuardEvent_adcTaskBody p s
  cases i with
  | adcConfigure => exact adcStep .configure h
  | adcDelay => exact adcStep .delay h
  | adcWaitDrdy => exact adcStep .waitDrdy h
  | adcRead => exact adcStep .read h
  | setState => cases h; exact noGuardEvent_setState ..
  | setUserCalibration => cases h; exact noGuardEvent_setUserCalibration ..
  | ads1118CfgNormal | ads1118CfgFast | ads1118CfgTemp => cases h; exact noGuardEvent_spiWrite16 ..
  | setMaxCurrent | startCharging | stopCharging | ads1118Sample =>
    cases h; exact noGuardEvent_emit s rfl
  | setOutput | tick | calStep | calPass | calAbort | resetPowerOn | resetSupervising =>
    exact absurd (by simp [DrivesOutputs, Instr.mnemonic]) hi
  | getState | getAdcValues | getVoltages | getResistances | getPpCurrent | getCalibration
  | updateCp | updatePp | ccUpdate | calPassword | calSequence | sample => cases h; exact .refl s

/-! ### Operations that raise no countdown (R112) -/

/-- A sample counts its channel's countdown down, or leaves it at 0. -/
theorem process_invalid_le (P : Machine.Params) (env : Env) (ch : Channel) (code : I16) (a : Arch) :
    (process P env ch code a).cp.invalid.toNat ≤ a.cp.invalid.toNat ∧
      (process P env ch code a).pp.invalid.toNat ≤ a.pp.invalid.toNat := by
  have discarded {n : U8} (h : n ≠ 0) : (n - 1).toNat ≤ n.toNat := by bv_omega
  cases ch with
  | cp =>
    by_cases h : a.cp.invalid = 0
    · rw [process_cp_applied P env code h]
      obtain ⟨cp, cc, hup⟩ := updateCp_frame P env code { a with cp := { a.cp with raw := code } }
      rw [hup]
      exact ⟨le_rfl, le_rfl⟩
    · rw [process_cp_discarded P env code h]
      exact ⟨discarded h, le_rfl⟩
  | pp =>
    by_cases h : a.pp.invalid = 0
    · rw [process_pp_applied P env code h]
      exact ⟨le_rfl, le_rfl⟩
    · rw [process_pp_discarded P env code h]
      exact ⟨le_rfl, discarded h⟩
  | temp => exact ⟨le_rfl, le_rfl⟩

theorem adcRead_of_mnemonic {i : Instr} (h : i.mnemonic = "ADC_READ") : i = adcStepOf .read := by
  cases i with
  | adcRead => rfl
  | _ => simp [Instr.mnemonic] at h

/-- Besides the guard's callers and the resets, only ADC_READ writes the countdowns (R44). -/
theorem exec_invalid_le {i : Instr} {s t : State} (h : exec i s = .next t) (hi : ¬ DrivesOutputs i) :
    t.arch.cp.invalid.toNat ≤ s.arch.cp.invalid.toNat ∧
      t.arch.pp.invalid.toNat ≤ s.arch.pp.invalid.toNat := by
  by_cases hread : i.mnemonic = "ADC_READ"
  · obtain rfl : i = adcStepOf .read := adcRead_of_mnemonic hread
    obtain ⟨-, rfl⟩ := adcStepOf_next h
    rw [adcTaskBody, adcRead_eq]
    exact process_invalid_le ..
  · obtain ⟨-, -, -, -, hinvalid, -⟩ := fieldsHaveTheirWritersOnly i s t h
    obtain ⟨hcp, hpp⟩ := hinvalid (by simpa [DrivesOutputs, hread] using hi)
    rw [hcp, hpp]
    exact ⟨le_rfl, le_rfl⟩

theorem exec_out_of_not_drivesOutputs {i : Instr} {s t : State} (h : exec i s = .next t)
    (hi : ¬ DrivesOutputs i) : t.arch.out = s.arch.out := by
  obtain ⟨-, -, -, -, -, -, -, -, -, -, -, hout⟩ := fieldsHaveTheirWritersOnly i s t h
  exact hout (by simpa [DrivesOutputs] using hi)

/-- Settles O15: the output fields and the countdowns by their writers, the events by each operation's. -/
theorem onlyTheGuardDrivesOutputs : Obligations.OnlyTheGuardDrivesOutputs := by
  unfold Obligations.OnlyTheGuardDrivesOutputs
  intro i s t h hi
  obtain ⟨hcp, hpp⟩ := exec_invalid_le h hi
  exact ⟨exec_out_of_not_drivesOutputs h hi, hcp, hpp, noGuardEvent_exec h hi⟩

/-! ### Engaging the relay (R212) -/

/-- From `s` to `t` the relay is neither written nor announced as engaged. -/
structure RelayIdle (s t : State) : Prop where
  events : ∃ ev, t.trace = s.trace ++ ev ∧ .relaySet true ∉ ev
  contactor : t.arch.out.contactor = s.arch.out.contactor
  env : t.env = s.env

/-- From `s` to `t` the relay is announced as engaged exactly when it is turned on, and then with the lock
closed. -/
def EngagesLocked (s t : State) : Prop :=
  ∃ ev, t.trace = s.trace ++ ev ∧
    (.relaySet true ∈ ev ↔ s.arch.out.contactor = false ∧ t.arch.out.contactor = true) ∧
    (.relaySet true ∈ ev → s.env.inputs.lockState = .closed)

theorem engagesLocked_setOutput (duty : U16) (req : Bool) (s : State) :
    EngagesLocked s (setOutput duty req s) :=
  setOutput_trace duty req s

theorem EngagesLocked.refl (s : State) : EngagesLocked s s :=
  ⟨[], (List.append_nil _).symm, by simp, nofun⟩

theorem EngagesLocked.after_idle {s u t : State} (hidle : RelayIdle s u) (h : EngagesLocked u t) :
    EngagesLocked s t := by
  obtain ⟨⟨ev, htrace, hev⟩, hcontactor, henv⟩ := hidle
  obtain ⟨ev', htrace', hiff, hlock⟩ := h
  rw [hcontactor] at hiff
  rw [henv] at hlock
  exact ⟨ev ++ ev', by rw [htrace', htrace, List.append_assoc], by simpa [hev] using hiff,
    by simpa [hev] using hlock⟩

theorem EngagesLocked.then_idle {s u t : State} (h : EngagesLocked s u) (hidle : RelayIdle u t) :
    EngagesLocked s t := by
  obtain ⟨ev, htrace, hiff, hlock⟩ := h
  obtain ⟨⟨ev', htrace', hev'⟩, hcontactor, -⟩ := hidle
  rw [← hcontactor] at hiff
  exact ⟨ev ++ ev', by rw [htrace', htrace, List.append_assoc], by simpa [hev'] using hiff,
    by simpa [hev'] using hlock⟩

theorem relayIdle_exec {i : Instr} {s t : State} (h : exec i s = .next t) (hi : ¬ DrivesOutputs i) :
    RelayIdle s t := by
  obtain ⟨ev, htrace, hev⟩ := noGuardEvent_exec h hi
  obtain ⟨-, -, henv, -⟩ := outsideEffectsAreRecorded i s t h
  exact ⟨⟨ev, htrace, fun hmem => by simpa [Spec.guardEvent] using hev _ hmem⟩,
    by rw [exec_out_of_not_drivesOutputs h hi], henv⟩

/-- Before a tick actuates, it leaves the relay alone. -/
theorem engagesLocked_tick (s : State) : EngagesLocked s (tick s) := by
  obtain h | ⟨new, g, ev, u, hu, hev, h⟩ := tick_cases s <;> rw [h]
  · exact .refl s
  · have hidle : RelayIdle s u := by
      obtain ⟨sm, ev', hset, hev'⟩ := setState_frame new s.env.now { s with
        arch := { s.arch with sm := { s.arch.sm with id3GuardTime := g } }, trace := s.trace ++ ev }
      rw [hu, hset]
      exact ⟨⟨ev ++ ev', List.append_assoc .., by simp [hev, hev']⟩, rfl, rfl⟩
    rw [actuate_eq]
    exact .after_idle { hidle with } (engagesLocked_setOutput ..)

theorem relayIdle_persistSaveFactory (P : Machine.Params) (s : State) :
    RelayIdle s (persistSaveFactory P s) where
  events := ⟨_, rfl, by simp⟩
  contactor := rfl
  env := rfl

theorem engagesLocked_sessionStep (P : Machine.Params) (step : U8) (value : I16) (s : State) :
    EngagesLocked s (sessionStep P step value s) := by
  unfold sessionStep
  split_ifs
  · exact .refl s
  · exact engagesLocked_setOutput _ _ (s.withFactory _)
  · exact engagesLocked_setOutput _ _ (s.withFactory _)
  · have saved (u : State) :
        EngagesLocked u (persistSaveFactory P (setOutput Config.kDutyFull false u)) :=
      (engagesLocked_setOutput ..).then_idle (relayIdle_persistSaveFactory P _)
    exact saved (s.withFactory _)

theorem engagesLocked_calStep (P : Machine.Params) (step : U8) (password : U32) (value : I16)
    (s : State) : EngagesLocked s (calStep P step password value s) := by
  unfold calStep
  split
  · exact engagesLocked_sessionStep P step value s
  · exact .refl s

theorem engagesLocked_calAbort (P : Machine.Params) (password : U32) (s : State) :
    EngagesLocked s (calAbort P password s) := by
  unfold calAbort
  split
  · exact engagesLocked_setOutput _ _ (s.withFactory _)
  · exact .refl s

/-- A reset announces the relay as off and leaves it off. -/
theorem engagesLocked_of_reset {s t : State}
    (htrace : t.trace = s.trace ++ [.pwmSet 1000, .relaySet false, .lockRequest false])
    (hoff : t.arch.out.contactor = false) : EngagesLocked s t :=
  ⟨_, htrace, by simp [hoff], by simp⟩

theorem engagesLocked_exec {i : Instr} {s t : State} (h : exec i s = .next t) : EngagesLocked s t := by
  cases i with
  | setOutput => cases h; exact engagesLocked_setOutput ..
  | tick => cases h; exact engagesLocked_tick s
  | calStep | calPass => cases h; exact engagesLocked_calStep ..
  | calAbort => cases h; exact engagesLocked_calAbort ..
  | resetPowerOn | resetSupervising =>
    cases h; exact engagesLocked_of_reset (resetOutputs_trace _) rfl
  | _ =>
    exact (EngagesLocked.refl s).then_idle
      (relayIdle_exec h (by simp [DrivesOutputs, Instr.mnemonic]))

/-- Settles O16: the operation's events are those the trace grew by. -/
theorem relayEngagesOnlyWithLockClosed : Obligations.RelayEngagesOnlyWithLockClosed := by
  unfold Obligations.RelayEngagesOnlyWithLockClosed
  intro i s t ev h htrace hengages
  obtain ⟨ev', htrace', hiff, hlock⟩ := engagesLocked_exec h
  obtain rfl : ev' = ev := List.append_cancel_left (htrace'.symm.trans htrace)
  have hmem : .relaySet true ∈ ev' := hengages.elim id hiff.mpr
  exact ⟨hlock hmem, (hiff.mp hmem).2, hmem⟩

end Sys2Proof.Proofs
end

section
/-!
SUPPORT. The host commands (46_host_commands.md rules R215 to R218, R220, R221, R223, R224): what each
answers, notifies or writes. Of a decoded frame, O1 gives the command; after the lemmas of each part, its
statements.
-/

namespace Sys2Proof.Proofs

open Sys2Proof Sys2Proof.Machine

/-! ### The getters (R215 to R218) -/

theorem exec_getState (s : State) :
    exec .getState s = .next (s.respond (.state (stateCode s.arch.sm.state) s.arch.out.duty
      s.arch.out.contactor (chargingTime s.arch.sm.chargingStart s.env.now) s.arch.cal.step
      s.arch.sm.buttonPressed)) := rfl

/-- The answer of R195's reset values, from the six fields GET_STATE reads; a charging time of 0 needs
the timer stopped, whatever the clock shows. -/
theorem exec_getState_of_reset_values {s : State} (hstate : s.arch.sm.state = .ef)
    (hduty : s.arch.out.duty = 1000) (hrelay : s.arch.out.contactor = false)
    (hstart : s.arch.sm.chargingStart = none) (hstep : s.arch.cal.step = 0)
    (hbutton : s.arch.sm.buttonPressed = false) :
    exec .getState s = .next (s.respond (.state 4 1000 false 0 0 false)) := by
  rw [exec_getState, hstate, hduty, hrelay, hstart, hstep, hbutton]
  rfl

/-- Settles O20: both resets leave R195's values and no answer; the two codings are the model's, case by
case. -/
theorem getStateAnswers : Obligations.GetStateAnswers := by
  unfold Obligations.GetStateAnswers
  refine ⟨encodedOperationsDecode .getState rfl, fun s i hi => ?_, fun s => ?_⟩
  · obtain rfl | rfl : i = .resetPowerOn ∨ i = .resetSupervising := by simpa using hi
    · exact ⟨_, _, rfl, exec_getState_of_reset_values rfl rfl rfl rfl rfl rfl, rfl⟩
    · exact ⟨_, _, rfl, exec_getState_of_reset_values rfl rfl rfl rfl rfl rfl, rfl⟩
  · rw [exec_getState]
    rfl

/-- Settles O21: each getter is one `respond` of the fields its rule names. -/
theorem telemetryGettersAnswer : Obligations.TelemetryGettersAnswer := by
  unfold Obligations.TelemetryGettersAnswer
  exact ⟨encodedOperationsDecode .getAdcValues rfl, encodedOperationsDecode .getVoltages rfl,
    encodedOperationsDecode .getResistances rfl, fun s => ⟨rfl, rfl, rfl⟩⟩

/-! ### GET_CALIBRATION (R220) -/

theorem selectorOf_of_two_lt {b : Byte} (h : 2 < b.toNat) : selectorOf b = .error .badSelector := by
  have ne (n : Byte) (hn : n.toNat ≤ 2) : b ≠ n := by
    rintro rfl
    exact Nat.not_lt.mpr hn h
  rw [selectorOf, if_neg (ne 0 (by decide)), if_neg (ne 1 (by decide)), if_neg (ne 2 (by decide))]

theorem decode_getCalibration_frame (which : Byte) :
    decode (.host [0x30, which]) = (selectorOf which).map .getCalibration := rfl

theorem exec_getCalibration (which : CalSet) (s : State) :
    exec (.getCalibration which) s = .next (s.respond (calibrationOf which s.arch)) := rfl

/-- The active bit and the set are chosen by one condition, `Eff(S)`'s (R34). -/
theorem calibrationOf_effective (a : Arch) :
    calibrationOf .effective a = if a.user.active = true ∧ a.cal.step = 0
      then .calibration true a.user.params else .calibration false a.factory := by
  have hbit : (a.user.active && decide (a.cal.step = 0))
      = decide (a.user.active = true ∧ a.cal.step = 0) := by simp
  rw [calibrationOf, eff, hbit]
  by_cases h : a.user.active = true ∧ a.cal.step = 0
  · rw [decide_eq_true h, if_pos h, if_pos h]
  · rw [decide_eq_false h, if_neg h, if_neg h]

/-- Settles O23: the frame's selector picks the set; outside a session an active user set is the
effective one, else the factory set. -/
theorem getCalibrationAnswers : Obligations.GetCalibrationAnswers := by
  unfold Obligations.GetCalibrationAnswers
  refine ⟨encodedOperationsDecode (.getCalibration .factory) rfl,
    encodedOperationsDecode (.getCalibration .user) rfl,
    encodedOperationsDecode (.getCalibration .effective) rfl, fun which hwhich => ?_,
    fun s => ⟨rfl, rfl, fun huser => ?_, fun hfactory => ?_⟩⟩
  · rw [decode_getCalibration_frame, selectorOf_of_two_lt hwhich]
    rfl
  · rw [exec_getCalibration, calibrationOf_effective, if_pos huser]
    rfl
  · have hnot : ¬ (s.arch.user.active = true ∧ s.arch.cal.step = 0) := by
      rwa [not_and_or, Bool.not_eq_true]
    rw [exec_getCalibration, calibrationOf_effective, if_neg hnot]
    rfl

/-! ### The notifications (R223, R224) -/

/-- Settles O24: the frame carries the four bytes of `ma`, and the command is one emitted event. -/
theorem setMaxCurrentNotifies : Obligations.SetMaxCurrentNotifies := by
  unfold Obligations.SetMaxCurrentNotifies
  exact fun ma s => ⟨encodedOperationsDecode (.setMaxCurrent ma) rfl, rfl⟩

/-- Settles O25: each request writes the flag and emits its button's event. -/
theorem chargingRequestsSetTheFlag : Obligations.ChargingRequestsSetTheFlag := by
  unfold Obligations.ChargingRequestsSetTheFlag
  exact ⟨encodedOperationsDecode .startCharging rfl, encodedOperationsDecode .stopCharging rfl,
    fun s => ⟨rfl, rfl⟩⟩

/-! ### SET_USER_CALIBRATION (R221, R239) -/

theorem exec_setUserCalibration_rejected {password : U32} (active : Bool) {p : CalParams}
    (h : ¬ (password = Config.params.userCalPassword ∧ p.div ≠ 0)) (s : State) :
    exec (.setUserCalibration password active p) s = .next (s.respond (.ok false)) :=
  congrArg _ (if_neg (mt of_decide_eq_true h))

/-- Settles O26: the two checks decide between the save with its answer and the bare refusal. -/
theorem setUserCalibrationWritesOrRejects : Obligations.SetUserCalibrationWritesOrRejects := by
  unfold Obligations.SetUserCalibrationWritesOrRejects
  refine fun password active p s => ⟨fun ⟨hpassword, hdiv⟩ => ?_, fun hbad => ?_⟩
  · rw [hpassword, exec_setUserCalibration_accepted active hdiv]
    rfl
  · have hnot : ¬ (password = Config.params.userCalPassword ∧ p.div ≠ 0) := by
      rwa [not_and_or, not_not]
    rw [exec_setUserCalibration_rejected active hnot]
    rfl

end Sys2Proof.Proofs
end

section
/-!
SUPPORT. ENV's answers over a step (60_exceptions.md rule R248) and the reset state
(70_reset_and_hazards.md rules R260, R263, R264): the statement that time never goes backward, and the one
that the state after reset is safe.
-/

namespace Sys2Proof.Proofs

open Sys2Proof Sys2Proof.Machine

/-! ### ENV's answers -/

theorem exec_env {i : Instr} {s t : State} (h : exec i s = .next t) : t.env = s.env := by
  obtain ⟨-, -, henv, -⟩ := outsideEffectsAreRecorded i s t h
  exact henv

/-- Only the fetch takes answers: neither the operation, nor its return to the schedule, nor the drop of
a refused code writes them. -/
theorem step_env {s t : State} (h : step s = .next t) : t.env = (fetched s).env := by
  rcases step_next h with ⟨i, u, -, he, rfl⟩ | rfl
  · have hu : u.env = (fetched s).env := exec_env he
    obtain ⟨q, hq⟩ := requeue_frame (nextSlot s) (fetched s) u
    rw [hq]
    exact hu
  · rcases rejected_frame (nextSlot s).code (fetched s) with hr | ⟨w, hr⟩
    · rw [hr]
    · rw [hr]
      exact (effectsRecorded_spiWrite16 w (fetched s)).env

/-- What the clock moves by at a fetch is one of ENV's advances, whether placed with the operation or
free. -/
theorem fetched_now (s : State) :
    ∃ advance : BitVec 31, (fetched s).env.now = s.env.now + advance.setWidth 32 := ⟨_, rfl⟩

/-- An advance is 31 bits wide, so it is read back from the wrapping clock in full. -/
theorem clock_advance_lt (now : U32) (advance : BitVec 31) :
    (now + advance.setWidth 32 - now).toNat < 2 ^ 31 := by
  rw [BitVec.add_comm, BitVec.add_sub_cancel, BitVec.toNat_setWidth_of_le (by decide)]
  exact advance.isLt

/-- Settles O9: the clock of a step is the fetch's, an advance of 31 bits from the last. -/
theorem timeNeverGoesBackward : Obligations.TimeNeverGoesBackward := by
  unfold Obligations.TimeNeverGoesBackward
  refine ⟨fun s t hstep => ?_, fun i s t => exec_env⟩
  obtain ⟨advance, hnow⟩ := fetched_now s
  rw [step_env hstep, hnow]
  exact clock_advance_lt s.env.now advance

/-! ### The state after reset -/

theorem windowOk_atReset {len : Nat} (hlen : 0 < len) (lo hi : Int) :
    windowOk len lo hi (MovAvg.atReset len) :=
  ⟨List.length_replicate, hlen, nofun⟩

/-- What R45 and R264 leave in each field, and the defaults of R262 in both calibration sets. -/
theorem safe_reset : Safe State.reset where
  divisors := ⟨defaultParams_div _, defaultParams_div _⟩
  duty := dutyFull_mem
  step := Nat.zero_le _
  countdowns := ⟨Nat.zero_le _, Nat.zero_le _⟩
  resistances := ⟨Nat.zero_le _, Nat.zero_le _⟩
  cpWindow := windowOk_atReset (by decide) ..
  ppWindow := windowOk_atReset (by decide) ..
  ccWindow := windowOk_atReset (Nat.succ_pos _) ..
  ccQueue := ⟨List.length_replicate, Nat.succ_pos _⟩
  channel := nofun
  relay := nofun

/-- Settles O11: each field as the reset leaves it, and a schedule with nothing in it. -/
theorem resetStateIsSafe : Obligations.ResetStateIsSafe := by
  unfold Obligations.ResetStateIsSafe
  exact ⟨safe_reset, rfl⟩

end Sys2Proof.Proofs
end
